-- ==== Sys2Proof/Word.lean ====
section
/-!
DEFINITION. The two widths the machine moves (spec/00_scope.md R5, R8): a byte is 8 bits, a word is 16 bits, bit 0 is the
least significant bit.
-/

namespace Sys2Proof

/-- A byte (R8): a general register, a memory cell, an opcode. -/
abbrev Byte := BitVec 8

/-- A word (R8): an address, `SP`, `PC`, a register pair. -/
abbrev Word := BitVec 16

end Sys2Proof
end

