-- ==== Sys2Proof/Machine/Bits.lean ====
section
/-!
DEFINITION. The halves of a word, the joining of two bytes, and the two extensions (spec/00_scope.md R8).
-/

namespace Sys2Proof.Machine

/-- R8 `lo(w) = w[7:0]`. -/
def lo (w : Word) : Byte := w.extractLsb' 0 8

/-- R8 `hi(w) = w[15:8]`. -/
def hi (w : Word) : Byte := w.extractLsb' 8 8

/-- R8 `h ++ l`: `h` in the upper byte. -/
def cat (h l : Byte) : Word := h ++ l

/-- R8 `sext_16`. -/
def sext16 (b : Byte) : Word := b.signExtend 16

/-- R8 `zext_16`. -/
def zext16 (b : Byte) : Word := b.setWidth 16

end Sys2Proof.Machine
end

