-- ==== Sys2Proof/Machine/Flags.lean ====
section
/-!
DEFINITION. The arithmetic, logic, rotate and shift results with the flags each gives (spec/42_alu8.md R180 to R200,
spec/43_alu16.md R210 to R214, spec/44_rotate_shift_bit.md R220 to R232). Sums are over the integers and narrowed at the end (R204).
-/

namespace Sys2Proof.Machine

/-- A result with its half-carry and carry. -/
structure Sum8 where
  r : Byte
  h : Bool
  c : Bool
  deriving DecidableEq, Repr

/-- R180 `Add8(a, b, cin)`. -/
def add8 (a b : Byte) (cin : Bool) : Sum8 :=
  let s := a.toNat + b.toNat + cin.toNat
  { r := BitVec.ofNat 8 s
    h := decide ((a &&& 0x0F).toNat + (b &&& 0x0F).toNat + cin.toNat > 0x0F)
    c := decide (s > 0xFF) }

/-- R181 `Sub8(a, b, cin)`. -/
def sub8 (a b : Byte) (cin : Bool) : Sum8 :=
  { r := BitVec.ofInt 8 ((a.toNat : Int) - b.toNat - cin.toNat)
    h := decide ((a &&& 0x0F).toNat < (b &&& 0x0F).toNat + cin.toNat)
    c := decide (a.toNat < b.toNat + cin.toNat) }

/-- What an accumulator operation gives: the result byte, and fN, fH, fC; fZ is set iff the result is 0x00 (R204). -/
structure AluOut where
  r : Byte
  n : Bool
  h : Bool
  c : Bool
  deriving DecidableEq, Repr

/-- R182 to R197: the eight accumulator operations on `A`, the operand and fC. -/
def aluOut (o : Alu) (a v : Byte) (cin : Bool) : AluOut :=
  match o with
  | .add => let q := add8 a v false; ⟨q.r, false, q.h, q.c⟩
  | .adc => let q := add8 a v cin; ⟨q.r, false, q.h, q.c⟩
  | .sub => let q := sub8 a v false; ⟨q.r, true, q.h, q.c⟩
  | .sbc => let q := sub8 a v cin; ⟨q.r, true, q.h, q.c⟩
  | .and => ⟨a &&& v, false, true, false⟩
  | .xor => ⟨a ^^^ v, false, false, false⟩
  | .or => ⟨a ||| v, false, false, false⟩
  | .cp => let q := sub8 a v false; ⟨q.r, true, q.h, q.c⟩

/-- R196, R197: every accumulator operation but `CP` writes `A`. -/
def writesA (o : Alu) : Bool :=
  match o with
  | .cp => false
  | .add | .adc | .sub | .sbc | .and | .xor | .or => true

/-- R200 `DAA`: the result and fC, from `A`, fN, fH, fC. -/
def daaOut (a : Byte) (n h c : Bool) : Byte × Bool :=
  if n then
    let adj := (if h then 0x06#8 else 0x00#8) ||| (if c then 0x60#8 else 0x00#8)
    (a - adj, c)
  else
    let low := h || decide ((a &&& 0x0F).toNat > 0x09)
    let high := c || decide (a.toNat > 0x99)
    let adj := (if low then 0x06#8 else 0x00#8) ||| (if high then 0x60#8 else 0x00#8)
    (a + adj, high)

/-- A 16-bit sum with its half-carry (out of bit 11) and carry (out of bit 15). -/
structure Sum16 where
  r : Word
  h : Bool
  c : Bool
  deriving DecidableEq, Repr

/-- R210, R213, R214: the 16-bit adder. -/
def add16 (a b : Word) : Sum16 :=
  let s := a.toNat + b.toNat
  { r := BitVec.ofNat 16 s
    h := decide ((a &&& 0x0FFF).toNat + (b &&& 0x0FFF).toNat > 0x0FFF)
    c := decide (s > 0xFFFF) }

/-- R220 to R232: the result of a rotate or shift and the bit that goes into fC. -/
def rotOut (o : Rot) (v : Byte) (cin : Bool) : Byte × Bool :=
  let carry : Byte := if cin then 1 else 0
  let top : Byte := if v.getLsbD 7 then 1 else 0
  let bottom : Byte := if v.getLsbD 0 then 1 else 0
  match o with
  | .rlc => ((v <<< 1) ||| top, v.getLsbD 7)
  | .rrc => ((v >>> 1) ||| (bottom <<< 7), v.getLsbD 0)
  | .rl => ((v <<< 1) ||| carry, v.getLsbD 7)
  | .rr => ((v >>> 1) ||| (carry <<< 7), v.getLsbD 0)
  | .sla => (v <<< 1, v.getLsbD 7)
  | .sra => ((v >>> 1) ||| (v &&& 0x80), v.getLsbD 0)
  | .swap => (((v <<< 4) &&& 0xF0) ||| (v >>> 4), false)
  | .srl => (v >>> 1, v.getLsbD 0)

/-- R234, R235: the mask of bit `b`. -/
def bitMask (b : Fin 8) : Byte := 1#8 <<< b.val

end Sys2Proof.Machine
end

