-- ==== Sys2Proof/Machine/State.lean ====
section
/-!
DEFINITION. The state of the machine as plain data: every piece of state of spec/10_state.md (R20 to R53), the two loaded
images (R35), and the value the last CPU step returned (R100). Its faults and refusals, and the state after reset (R55, R380).
-/

namespace Sys2Proof.Machine

/-- A memory in canonical form: (address, byte) pairs, addresses strictly rising, no byte 0x00; an address that is not listed
reads as 0x00, the reset contents of `Mem` (R55) and the padding of a short image (D5). See `Memory.wf`. -/
abbrev Memory := List Host.Cell

/-- The frame buffer `FB` (R52): 144 rows of 640 bytes, four bytes to a pixel. -/
abbrev FrameBuffer := List (List Byte)

/-- The register snapshot a fault reports (spec/46_system.md R275): `A F B C D E H L SP PC`. -/
structure Snapshot where
  a : Byte
  f : Byte
  b : Byte
  c : Byte
  d : Byte
  e : Byte
  h : Byte
  l : Byte
  sp : Word
  pc : Word
  deriving DecidableEq, Repr

/-- The three fault kinds of spec/60_exceptions.md R304, each with its payload. All are fatal and latched (R303). -/
inductive Fault where
  /-- (a) Raised by fetching one of the eleven illegal opcodes (R275): the opcode, its address, the two bytes before it, the
  two bytes after it, the registers. The hardware reports this fault: safe. -/
  | decodeFault (opcode : Byte) (address : Word) (before : Byte × Byte) (after : Byte × Byte) (regs : Snapshot)
  /-- (b) Raised by nothing: all address arithmetic is modulo 2^16 (R82, R304); kept as R304 allows. Safe. -/
  | addressingFault (address : Nat)
  /-- (c) Raised by a request of an interrupt bit above 3 (R305) and by a delivery whose lowest pending enabled bit is above 3
  (R309): the bit, the registers. The hardware reports this fault: safe. -/
  | internalConsistencyFault (bit : Nat) (regs : Snapshot)
  deriving DecidableEq, Repr

/-- The reasons for which the model declines an instruction. -/
inductive Refusal where
  /-- An instruction without a meaning, by its mnemonic. Raised by no arm of `exec`. Safe. -/
  | notModelled (mnemonic : String)
  deriving DecidableEq, Repr

/-- The state of the machine. The I/O registers of R40 are bytes of `mem`. -/
@[ext]
structure State where
  /-- R20: the accumulator and the six other general registers. -/
  a : Byte
  b : Byte
  c : Byte
  d : Byte
  e : Byte
  h : Byte
  l : Byte
  /-- R21: zero, negative, half-carry and carry. -/
  fZ : Bool
  fN : Bool
  fH : Bool
  fC : Bool
  /-- R24. -/
  sp : Word
  /-- R25. -/
  pc : Word
  /-- R30: boot mode active. -/
  boot : Bool
  /-- R30: interrupts globally enabled. -/
  ime : Bool
  /-- R30. -/
  halted : Bool
  /-- R30. -/
  stopped : Bool
  /-- R30, R303: the fault latch; `none` is the spec's `faulted = false`, `some f` is `faulted = true` with the fault that every
  later operation returns. -/
  faulted : Option Fault
  /-- R34: the 64 KiB memory image `Mem`, with the I/O registers of R40 in it. -/
  mem : Memory
  /-- R35: the boot image, 256 bytes; no step changes it. -/
  bios : Memory
  /-- R35: the cartridge image, 32 KiB; no step changes it. -/
  rom : Memory
  /-- R53: the cycles left in the current scanline. -/
  budget : Nat
  /-- R52. -/
  fb : FrameBuffer
  /-- R100: the value the last CPU step returned, the argument of the PPU's and the timer's advance (R300). -/
  cycles : Nat
  deriving DecidableEq, Repr

/-- The state right after reset (R55, R380), with images of zeros: no program is loaded. -/
def State.reset : State where
  a := 0x00
  b := 0x00
  c := 0x00
  d := 0x00
  e := 0x00
  h := 0x00
  l := 0x00
  fZ := false
  fN := false
  fH := false
  fC := false
  sp := 0x0000
  pc := 0x0000
  boot := true
  ime := false
  halted := false
  stopped := false
  faulted := none
  mem := []
  bios := []
  rom := []
  budget := 456
  fb := List.replicate 144 (List.replicate 640 0x00)
  cycles := 0

end Sys2Proof.Machine
end

