-- ==== Sys2Proof/Machine/Memory.lean ====
section
/-!
DEFINITION. Reading and writing one byte of a memory held as a canonical list, and of one row of the frame buffer.
`Mem[a]` in a rule of the spec is `read` and `write` here: direct access, without the bus (spec/10_state.md R34).
-/

namespace Sys2Proof.Machine

/-- What an address that is not listed reads as (R55, decision D3; assumption log 1). -/
abbrev unlistedByte : Byte := 0x00

/-- `Mem[a]`. -/
def Memory.read : Memory → Nat → Byte
  | [], _ => unlistedByte
  | (k, v) :: t, a => if k = a then v else Memory.read t a

/-- The memory without any entry for `a`. -/
def Memory.erase : Memory → Nat → Memory
  | [], _ => []
  | (k, v) :: t, a => if k = a then Memory.erase t a else (k, v) :: Memory.erase t a

/-- An entry put in front of the first larger address. -/
def Memory.insert : Memory → Nat → Byte → Memory
  | [], a, v => [(a, v)]
  | (k, w) :: t, a, v => if a < k then (a, v) :: (k, w) :: t else (k, w) :: Memory.insert t a v

/-- `Mem[a] <- v`. Writing what an unlisted address reads as removes the entry. -/
def Memory.write (m : Memory) (a : Nat) (v : Byte) : Memory :=
  if v = unlistedByte then Memory.erase m a else Memory.insert (Memory.erase m a) a v

/-- Every entry's address is at least `low` and below `size`, the addresses rise strictly, and no entry is redundant. -/
def Memory.wfFrom (size : Nat) : Nat → Memory → Bool
  | _, [] => true
  | low, (k, v) :: t => decide (low ≤ k) && decide (k < size) && decide (v ≠ unlistedByte) && Memory.wfFrom size (k + 1) t

/-- The canonical form of a memory of `size` bytes. -/
def Memory.wf (size : Nat) (m : Memory) : Bool := Memory.wfFrom size 0 m

/-- R52: byte `k` of pixel (row, col), `FB[(row·160 + col)·4 + k]`. -/
def FrameBuffer.byte (fb : FrameBuffer) (row col k : Nat) : Byte := (fb.getD row []).getD (col * 4 + k) 0x00

/-- The rows of the frame buffer with row `y` replaced. -/
def FrameBuffer.putRow (fb : FrameBuffer) (y : Nat) (row : List Byte) : FrameBuffer := fb.set y row

/-- R52: 144 rows of 640 bytes. -/
def FrameBuffer.wf (fb : FrameBuffer) : Bool := fb.length == 144 && fb.all (fun row => row.length == 640)

end Sys2Proof.Machine
end

