-- ==== Sys2Proof/Machine/Bus.lean ====
section
/-!
DEFINITION. The memory bus of spec/20_memory.md: the address map (R61), the read path (R62 to R65), the write path with its
three side effects (R66 to R73), and the 16-bit accesses (R74, R75).
-/

namespace Sys2Proof.Machine

/-- The rows of R61, the two readings of 0x0000 to 0x00FF apart. -/
inductive Region where
  | bios
  | rom
  | videoRam
  | externalRam
  | workingRam
  | mirror
  | objectMemory
  | unusable
  | io
  | highRam
  | interruptEnable
  deriving DecidableEq, Repr

/-- R61: the row that holds the address `a`. -/
def regionOf (boot : Bool) (a : Nat) : Region :=
  if a < 0x0100 then (if boot then .bios else .rom)
  else if a < 0x8000 then .rom
  else if a < 0xA000 then .videoRam
  else if a < 0xC000 then .externalRam
  else if a < 0xE000 then .workingRam
  else if a < 0xFE00 then .mirror
  else if a < 0xFEA0 then .objectMemory
  else if a < 0xFF00 then .unusable
  else if a < 0xFF80 then .io
  else if a < 0xFFFF then .highRam
  else .interruptEnable

/-- R40: the addresses of the I/O registers that a rule reads or writes by name. -/
abbrev JOYP : Nat := 0xFF00
abbrev DIV : Nat := 0xFF04
abbrev IF : Nat := 0xFF0F
abbrev LCDC : Nat := 0xFF40
abbrev STAT : Nat := 0xFF41
abbrev SCY : Nat := 0xFF42
abbrev SCX : Nat := 0xFF43
abbrev LY : Nat := 0xFF44
abbrev LYC : Nat := 0xFF45
abbrev DMA : Nat := 0xFF46
abbrev BGP : Nat := 0xFF47
abbrev WY : Nat := 0xFF4A
abbrev WX : Nat := 0xFF4B
abbrev BOOTOFF : Nat := 0xFF50
abbrev IE : Nat := 0xFFFF

/-- `Mem[a]` (R34): direct access, without the bus. -/
def State.direct (s : State) (a : Nat) : Byte := s.mem.read a

/-- `Mem[a] <- v` (R34). -/
def State.setDirect (s : State) (a : Nat) (v : Byte) : State := { s with mem := s.mem.write a v }

/-- R62 `MemRead(addr, 1)`: a read changes no state. -/
def State.read8 (s : State) (addr : Word) : Byte :=
  let a := addr.toNat
  match regionOf s.boot a with
  | .bios => s.bios.read a
  | .rom => s.rom.read a
  | .mirror => s.direct (a - 0x2000)
  | .unusable => 0x00
  | .videoRam | .externalRam | .workingRam | .objectMemory | .io | .highRam | .interruptEnable => s.direct a

/-- R72: one byte of the block copy. -/
def dmaByte (src : Word) (s : State) (i : Nat) : State :=
  s.setDirect (0xFE00 + i) (s.read8 (src + BitVec.ofNat 16 i))

/-- R72: the 160-byte copy from page `v` into object attribute memory, in increasing order. -/
def State.dma (s : State) (v : Byte) : State := (List.range 160).foldl (dmaByte (cat v 0x00)) s

/-- R68, R71, R72, R73: a write to an I/O address. -/
def State.writeIo (s : State) (a : Nat) (v : Byte) : State :=
  if a = DIV then s.setDirect DIV 0x00
  else if a = DMA then s.dma v
  else if a = BOOTOFF then { s with boot := false }
  else s.setDirect a v

/-- R66 `MemWrite(addr, 1, v)`. -/
def State.write8 (s : State) (addr : Word) (v : Byte) : State :=
  let a := addr.toNat
  match regionOf s.boot a with
  | .bios | .rom | .unusable => s
  | .mirror => s.setDirect (a - 0x2000) v
  | .io => s.writeIo a v
  | .videoRam | .externalRam | .workingRam | .objectMemory | .highRam | .interruptEnable => s.setDirect a v

/-- R74 `MemRead(addr, 2)`: low byte at `addr`, high byte at `addr + 1`, modulo 2^16. -/
def State.read16 (s : State) (addr : Word) : Word := cat (s.read8 (addr + 1)) (s.read8 addr)

/-- R75 `MemWrite(addr, 2, w)`: the low byte first. -/
def State.write16 (s : State) (addr : Word) (w : Word) : State :=
  let s1 := s.write8 addr (lo w)
  s1.write8 (addr + 1) (hi w)

end Sys2Proof.Machine
end

