-- ==== Sys2Proof/Machine/Operands.lean ====
section
/-!
DEFINITION. Every operand form of the encoding: the 8-bit operand `x[i]`, the 16-bit registers `rr[i]` and `qq[i]`, the
condition `cond(c)` (spec/00_scope.md R10, spec/30_encoding.md R106 to R109), and the register views of spec/10_state.md R21, R22.
-/

namespace Sys2Proof.Machine

/-- R20: one of the seven general registers. -/
def State.reg (s : State) : Reg8 → Byte
  | .a => s.a
  | .b => s.b
  | .c => s.c
  | .d => s.d
  | .e => s.e
  | .h => s.h
  | .l => s.l

def State.setReg (s : State) (r : Reg8) (v : Byte) : State :=
  match r with
  | .a => { s with a := v }
  | .b => { s with b := v }
  | .c => { s with c := v }
  | .d => { s with d := v }
  | .e => { s with e := v }
  | .h => { s with h := v }
  | .l => { s with l := v }

/-- R21: the view `F = fZ ++ fN ++ fH ++ fC ++ 0b0000`. -/
def State.flagByte (s : State) : Byte :=
  BitVec.ofBool s.fZ ++ BitVec.ofBool s.fN ++ BitVec.ofBool s.fH ++ BitVec.ofBool s.fC ++ 0#4

/-- R10 `flags <- (z, n, h, c)`. -/
def State.setFlags (s : State) (z n h c : Bool) : State := { s with fZ := z, fN := n, fH := h, fC := c }

/-- R22: the paired views. -/
def State.hl (s : State) : Word := cat s.h s.l
def State.bc (s : State) : Word := cat s.b s.c
def State.de (s : State) : Word := cat s.d s.e
def State.af (s : State) : Word := cat s.a s.flagByte

/-- R107 `rr[i]`. -/
def State.pair (s : State) : Pair → Word
  | .bc => s.bc
  | .de => s.de
  | .hl => s.hl
  | .sp => s.sp

/-- R107, R22 `rr[i] <- w`. -/
def State.setPair (s : State) (p : Pair) (w : Word) : State :=
  match p with
  | .bc => { s with b := hi w, c := lo w }
  | .de => { s with d := hi w, e := lo w }
  | .hl => { s with h := hi w, l := lo w }
  | .sp => { s with sp := w }

/-- R108 `qq[i]`. -/
def State.stackPair (s : State) : StackPair → Word
  | .bc => s.bc
  | .de => s.de
  | .hl => s.hl
  | .af => s.af

/-- R108, R22 `qq[i] <- w`: `AF <- w` takes the four flags from bits 7 to 4 and discards bits 3 to 0. -/
def State.setStackPair (s : State) (q : StackPair) (w : Word) : State :=
  match q with
  | .bc => s.setPair .bc w
  | .de => s.setPair .de w
  | .hl => s.setPair .hl w
  | .af => { s with a := hi w, fZ := w.getLsbD 7, fN := w.getLsbD 6, fH := w.getLsbD 5, fC := w.getLsbD 4 }

/-- R106 `x[i]` as a source. -/
def State.operand (s : State) : Operand8 → Byte
  | .reg r => s.reg r
  | .memHL => s.read8 s.hl

/-- R106 `x[i] <- v`. -/
def State.setOperand (s : State) (x : Operand8) (v : Byte) : State :=
  match x with
  | .reg r => s.setReg r v
  | .memHL => s.write8 s.hl v

/-- R250 `cond(c)`. -/
def State.cond (s : State) : Cond → Bool
  | .nz => !s.fZ
  | .z => s.fZ
  | .nc => !s.fC
  | .c => s.fC

end Sys2Proof.Machine
end

