-- ==== Sys2Proof/Machine/Params.lean ====
section
/-!
DEFINITION. The parameters of spec/00_scope.md R5 whose values are decisions of the spec (assumption log 5): the VBlank line,
the last scanline, the cost of a suspended step, the mode bits while the display is off, and the cycle counts `CYCLES`.
-/

namespace Sys2Proof.Machine

/-- R5 `VBLANK_LINE`. -/
abbrev VBLANK_LINE : Nat := 144

/-- R5 `MAX_LINE` (D29). -/
abbrev MAX_LINE : Nat := 153

/-- R5 `SUSPEND_CYCLES` (D17). -/
abbrev SUSPEND_CYCLES : Nat := 4

/-- R5 `PPU_OFF_MODE` (D26). -/
abbrev PPU_OFF_MODE : BitVec 2 := 0

/-- R117: the cycle counts of the primary table, a row of sixteen opcodes a line; of a conditional transfer, the count when
taken. The illegal opcodes have none (R275) and stand as 0. -/
def primaryCycles : List (List Nat) :=
  [[4, 12, 8, 8, 4, 4, 8, 4, 20, 8, 8, 8, 4, 4, 8, 4],
   [4, 12, 8, 8, 4, 4, 8, 4, 12, 8, 8, 8, 4, 4, 8, 4],
   [12, 12, 8, 8, 4, 4, 8, 4, 12, 8, 8, 8, 4, 4, 8, 4],
   [12, 12, 8, 8, 12, 12, 12, 4, 12, 8, 8, 8, 4, 4, 8, 4],
   [4, 4, 4, 4, 4, 4, 8, 4, 4, 4, 4, 4, 4, 4, 8, 4],
   [4, 4, 4, 4, 4, 4, 8, 4, 4, 4, 4, 4, 4, 4, 8, 4],
   [4, 4, 4, 4, 4, 4, 8, 4, 4, 4, 4, 4, 4, 4, 8, 4],
   [8, 8, 8, 8, 8, 8, 4, 8, 4, 4, 4, 4, 4, 4, 8, 4],
   [4, 4, 4, 4, 4, 4, 8, 4, 4, 4, 4, 4, 4, 4, 8, 4],
   [4, 4, 4, 4, 4, 4, 8, 4, 4, 4, 4, 4, 4, 4, 8, 4],
   [4, 4, 4, 4, 4, 4, 8, 4, 4, 4, 4, 4, 4, 4, 8, 4],
   [4, 4, 4, 4, 4, 4, 8, 4, 4, 4, 4, 4, 4, 4, 8, 4],
   [20, 12, 16, 16, 24, 16, 8, 16, 20, 16, 16, 4, 24, 24, 8, 16],
   [20, 12, 16, 0, 24, 16, 8, 16, 20, 16, 16, 0, 24, 0, 8, 16],
   [12, 12, 8, 0, 0, 16, 8, 16, 16, 4, 16, 0, 0, 0, 8, 16],
   [12, 12, 8, 4, 0, 16, 8, 16, 12, 8, 16, 4, 0, 0, 8, 16]]

/-- R117: the cycle count of a conditional transfer that is not taken: 8 for `JR cc` and `RET cc`, 12 for `JP cc` and `CALL cc`. -/
def notTakenCycles (op : Byte) : Nat :=
  if op.extractLsb' 0 3 = 0 then 8 else 12

/-- R118: the cycle count of a prefixed instruction, the prefix included. -/
def prefixedCycles (op : Byte) : Nat :=
  if op.extractLsb' 0 3 = 6 then (if op.extractLsb' 6 2 = 1 then 12 else 16) else 8

/-- R5 `CYCLES` (opcode, prefixed?, taken?), the counts of R117, R118 and R398. `taken` is true of every instruction that is not
a conditional transfer. -/
def CYCLES (op : Byte) (prefixed taken : Bool) : Nat :=
  if prefixed then prefixedCycles op
  else if taken then (primaryCycles.getD (op.toNat / 16) []).getD (op.toNat % 16) 0
  else notTakenCycles op

end Sys2Proof.Machine
end

