-- ==== Sys2Proof/Machine/Ops.lean ====
section
/-!
DEFINITION. The named operations the meanings share: the stack (spec/20_memory.md R76, R77), the register snapshot, the
request of an interrupt (spec/60_exceptions.md R305), TAKING an interrupt and the return from one (R308, R311, R312), the
fault latch (R303), and the outcome of a stage of the system step.
-/

namespace Sys2Proof.Machine

/-- R10 `PC <- target`. -/
def State.setPc (s : State) (w : Word) : State := { s with pc := w }

def State.setSp (s : State) (w : Word) : State := { s with sp := w }

/-- R10 `cycles <- n`. -/
def State.setCycles (s : State) (n : Nat) : State := { s with cycles := n }

/-- R100: the instruction ends in `s`, and `step()` returns its cycles. -/
def finish (op : Byte) (prefixed taken : Bool) (s : State) : Host.Outcome State Fault Refusal :=
  .next (s.setCycles (CYCLES op prefixed taken))

/-- R76 `Push16(w)`. -/
def State.push16 (s : State) (w : Word) : State :=
  let s1 := s.setSp (s.sp - 2)
  s1.write16 s1.sp w

/-- R77 `Pop16()`, its result. -/
def State.top16 (s : State) : Word := s.read16 s.sp

/-- R77 `Pop16()`, its effect on `SP`. -/
def State.dropTop (s : State) : State := s.setSp (s.sp + 2)

/-- R275 `regs`. -/
def State.snapshot (s : State) : Snapshot :=
  { a := s.a, f := s.flagByte, b := s.b, c := s.c, d := s.d, e := s.e, h := s.h, l := s.l, sp := s.sp, pc := s.pc }

/-- R306 `VEC[b]`. -/
def vector (b : Nat) : Word :=
  match b with
  | 0 => 0x0040
  | 1 => 0x0048
  | 2 => 0x0050
  | _ => 0x0060

/-- R305: the pending bit `b` of `IF` is set; `IE` and `ime` are not looked at. -/
def State.setPending (s : State) (b : Nat) : State := s.setDirect IF (s.direct IF ||| (1#8 <<< b))

/-- R303 `faulted <- true`. -/
def State.latch (s : State) (f : Fault) : State := { s with faulted := some f }

/-- R308, R311: interrupt `b` is taken. `PC` is pushed through the bus, `PC` becomes the vector, the bit of `IF` is cleared as
the push left it, `ime` and `halted` are cleared; nothing else is saved or changed. -/
def State.takeInterrupt (s : State) (b : Nat) : State :=
  let s1 := s.push16 s.pc
  let s2 := s1.setPc (vector b)
  let s3 := s2.setDirect IF (s2.direct IF &&& ~~~(1#8 <<< b))
  { s3 with ime := false, halted := false }

/-- R261, R312: `PC` is popped and `ime` set; nothing else is restored. -/
def State.returnFromInterrupt (s : State) : State :=
  let s1 := (s.setPc s.top16).dropTop
  { s1 with ime := true }

/-- The fault of R275 at a state whose `PC` is past the opcode `op`. -/
def State.decodeFault (s : State) (op : Byte) : Fault :=
  let a := s.pc - 1
  .decodeFault op a (s.read8 (a - 2), s.read8 (a - 1)) (s.read8 (a + 1), s.read8 (a + 2)) s.snapshot

/-- A stage of the system step (R300): it goes on with a state, or raises a fault and leaves a state (R303). -/
inductive Stage where
  | ok (s : State)
  | raised (f : Fault) (s : State)
  | declined (r : Refusal)
  deriving Repr

/-- The state a stage leaves; `s` where the model declines. -/
def Stage.stateOr (s : State) : Stage → State
  | .ok t => t
  | .raised _ t => t
  | .declined _ => s

/-- What the host is told (R303). -/
def Stage.outcome : Stage → Host.Outcome State Fault Refusal
  | .ok t => .next t
  | .raised f _ => .fault f
  | .declined r => .refused r

/-- R303 `raise f`: the latch is set, every earlier change of the step is kept. -/
def raise (s : State) (f : Fault) : Stage := .raised f (s.latch f)

/-- R303: a faulted machine returns the same fault and changes nothing; any other goes on with `k`. -/
def State.unlessFaulted (s : State) (k : State → Stage) : Stage :=
  match s.faulted with
  | some f => .raised f s
  | none => k s

/-- R305 `Request(b)`. -/
def State.request (s : State) (b : Nat) : Stage :=
  s.unlessFaulted fun s => if b > 3 then raise s (.internalConsistencyFault b s.snapshot) else .ok (s.setPending b)

end Sys2Proof.Machine
end

