-- ==== Sys2Proof/Machine/Alu16.lean ====
section
/-!
DEFINITION. 16-bit arithmetic (spec/43_alu16.md R210 to R214).
-/

namespace Sys2Proof.Machine

/-- R210: fZ and fN are written 0 whatever the result. -/
def addToHL (op : Byte) (p : Pair) (s : State) : Host.Outcome State Fault Refusal :=
  let q := add16 s.hl (s.pair p)
  finish op false true ((s.setPair .hl q.r).setFlags false false q.h q.c)

/-- R211, R212: no flag is written. -/
def stepPair (op : Byte) (p : Pair) (delta : Word) (s : State) : Host.Outcome State Fault Refusal :=
  finish op false true (s.setPair p (s.pair p + delta))

/-- R213, R214: `SP + sext_16(e)` goes to `dst`, `SP` or `HL`. -/
def addToSP (op : Byte) (dst : Pair) (e : Byte) (s : State) : Host.Outcome State Fault Refusal :=
  let q := add16 s.sp (sext16 e)
  finish op false true ((s.setPair dst q.r).setFlags false false q.h q.c)

/-- R211 `INC BC`. -/
def execInc_BC (s : State) : Host.Outcome State Fault Refusal := stepPair 0x03 .bc 1 s

/-- R210 `ADD HL,BC`. -/
def execAdd_HL_BC (s : State) : Host.Outcome State Fault Refusal := addToHL 0x09 .bc s

/-- R212 `DEC BC`. -/
def execDec_BC (s : State) : Host.Outcome State Fault Refusal := stepPair 0x0B .bc (-1) s

/-- R211 `INC DE`. -/
def execInc_DE (s : State) : Host.Outcome State Fault Refusal := stepPair 0x13 .de 1 s

/-- R210 `ADD HL,DE`. -/
def execAdd_HL_DE (s : State) : Host.Outcome State Fault Refusal := addToHL 0x19 .de s

/-- R212 `DEC DE`. -/
def execDec_DE (s : State) : Host.Outcome State Fault Refusal := stepPair 0x1B .de (-1) s

/-- R211 `INC HL`. -/
def execInc_HL (s : State) : Host.Outcome State Fault Refusal := stepPair 0x23 .hl 1 s

/-- R210 `ADD HL,HL`. -/
def execAdd_HL_HL (s : State) : Host.Outcome State Fault Refusal := addToHL 0x29 .hl s

/-- R212 `DEC HL`. -/
def execDec_HL (s : State) : Host.Outcome State Fault Refusal := stepPair 0x2B .hl (-1) s

/-- R211 `INC SP`. -/
def execInc_SP (s : State) : Host.Outcome State Fault Refusal := stepPair 0x33 .sp 1 s

/-- R210 `ADD HL,SP`. -/
def execAdd_HL_SP (s : State) : Host.Outcome State Fault Refusal := addToHL 0x39 .sp s

/-- R212 `DEC SP`. -/
def execDec_SP (s : State) : Host.Outcome State Fault Refusal := stepPair 0x3B .sp (-1) s

/-- R213 `ADD SP,e8`. -/
def execAdd_SP_e8 (e : Byte) (s : State) : Host.Outcome State Fault Refusal := addToSP 0xE8 .sp e s

/-- R214 `LD HL,SP+e8`. -/
def execLd_HL_SPe8 (e : Byte) (s : State) : Host.Outcome State Fault Refusal := addToSP 0xF8 .hl e s

end Sys2Proof.Machine
end

