-- ==== Sys2Proof/Machine/Alu8.lean ====
section
/-!
DEFINITION. 8-bit arithmetic and logic (spec/42_alu8.md R180 to R204).
-/

namespace Sys2Proof.Machine

/-- R182 to R197: an accumulator operation with operand `v`. -/
def accumulate (op : Byte) (o : Alu) (v : Byte) (s : State) : Host.Outcome State Fault Refusal :=
  let q := aluOut o s.a v s.fC
  finish op false true ((if writesA o then s.setReg .a q.r else s).setFlags (q.r == 0) q.n q.h q.c)

/-- R198: the operand is read once and written once; fC is kept. -/
def increment (op : Byte) (x : Operand8) (s : State) : Host.Outcome State Fault Refusal :=
  let q := add8 (s.operand x) 1 false
  finish op false true ((s.setOperand x q.r).setFlags (q.r == 0) false q.h s.fC)

/-- R199: the operand is read once and written once; fC is kept. -/
def decrement (op : Byte) (x : Operand8) (s : State) : Host.Outcome State Fault Refusal :=
  let q := sub8 (s.operand x) 1 false
  finish op false true ((s.setOperand x q.r).setFlags (q.r == 0) true q.h s.fC)

/-- R198 `INC B`. -/
def execInc_B (s : State) : Host.Outcome State Fault Refusal := increment 0x04 (.reg .b) s

/-- R199 `DEC B`. -/
def execDec_B (s : State) : Host.Outcome State Fault Refusal := decrement 0x05 (.reg .b) s

/-- R198 `INC C`. -/
def execInc_C (s : State) : Host.Outcome State Fault Refusal := increment 0x0C (.reg .c) s

/-- R199 `DEC C`. -/
def execDec_C (s : State) : Host.Outcome State Fault Refusal := decrement 0x0D (.reg .c) s

/-- R198 `INC D`. -/
def execInc_D (s : State) : Host.Outcome State Fault Refusal := increment 0x14 (.reg .d) s

/-- R199 `DEC D`. -/
def execDec_D (s : State) : Host.Outcome State Fault Refusal := decrement 0x15 (.reg .d) s

/-- R198 `INC E`. -/
def execInc_E (s : State) : Host.Outcome State Fault Refusal := increment 0x1C (.reg .e) s

/-- R199 `DEC E`. -/
def execDec_E (s : State) : Host.Outcome State Fault Refusal := decrement 0x1D (.reg .e) s

/-- R198 `INC H`. -/
def execInc_H (s : State) : Host.Outcome State Fault Refusal := increment 0x24 (.reg .h) s

/-- R199 `DEC H`. -/
def execDec_H (s : State) : Host.Outcome State Fault Refusal := decrement 0x25 (.reg .h) s

/-- R200 `DAA`. -/
def execDaa (s : State) : Host.Outcome State Fault Refusal := finish 0x27 false true ((s.setReg .a (daaOut s.a s.fN s.fH s.fC).1).setFlags ((daaOut s.a s.fN s.fH s.fC).1 == 0) s.fN false (daaOut s.a s.fN s.fH s.fC).2)

/-- R198 `INC L`. -/
def execInc_L (s : State) : Host.Outcome State Fault Refusal := increment 0x2C (.reg .l) s

/-- R199 `DEC L`. -/
def execDec_L (s : State) : Host.Outcome State Fault Refusal := decrement 0x2D (.reg .l) s

/-- R201 `CPL`. -/
def execCpl (s : State) : Host.Outcome State Fault Refusal := finish 0x2F false true ((s.setReg .a (~~~s.a)).setFlags s.fZ true true s.fC)

/-- R198 `INC (HL)`. -/
def execInc_mHL (s : State) : Host.Outcome State Fault Refusal := increment 0x34 .memHL s

/-- R199 `DEC (HL)`. -/
def execDec_mHL (s : State) : Host.Outcome State Fault Refusal := decrement 0x35 .memHL s

/-- R202 `SCF`. -/
def execScf (s : State) : Host.Outcome State Fault Refusal := finish 0x37 false true (s.setFlags s.fZ false false true)

/-- R198 `INC A`. -/
def execInc_A (s : State) : Host.Outcome State Fault Refusal := increment 0x3C (.reg .a) s

/-- R199 `DEC A`. -/
def execDec_A (s : State) : Host.Outcome State Fault Refusal := decrement 0x3D (.reg .a) s

/-- R203 `CCF`. -/
def execCcf (s : State) : Host.Outcome State Fault Refusal := finish 0x3F false true (s.setFlags s.fZ false false (!s.fC))

/-- R182 `ADD A,B`. -/
def execAdd_A_B (s : State) : Host.Outcome State Fault Refusal := accumulate 0x80 .add (s.operand (.reg .b)) s

/-- R182 `ADD A,C`. -/
def execAdd_A_C (s : State) : Host.Outcome State Fault Refusal := accumulate 0x81 .add (s.operand (.reg .c)) s

/-- R182 `ADD A,D`. -/
def execAdd_A_D (s : State) : Host.Outcome State Fault Refusal := accumulate 0x82 .add (s.operand (.reg .d)) s

/-- R182 `ADD A,E`. -/
def execAdd_A_E (s : State) : Host.Outcome State Fault Refusal := accumulate 0x83 .add (s.operand (.reg .e)) s

/-- R182 `ADD A,H`. -/
def execAdd_A_H (s : State) : Host.Outcome State Fault Refusal := accumulate 0x84 .add (s.operand (.reg .h)) s

/-- R182 `ADD A,L`. -/
def execAdd_A_L (s : State) : Host.Outcome State Fault Refusal := accumulate 0x85 .add (s.operand (.reg .l)) s

/-- R182 `ADD A,(HL)`. -/
def execAdd_A_mHL (s : State) : Host.Outcome State Fault Refusal := accumulate 0x86 .add (s.operand .memHL) s

/-- R182 `ADD A,A`. -/
def execAdd_A_A (s : State) : Host.Outcome State Fault Refusal := accumulate 0x87 .add (s.operand (.reg .a)) s

/-- R184 `ADC A,B`. -/
def execAdc_A_B (s : State) : Host.Outcome State Fault Refusal := accumulate 0x88 .adc (s.operand (.reg .b)) s

/-- R184 `ADC A,C`. -/
def execAdc_A_C (s : State) : Host.Outcome State Fault Refusal := accumulate 0x89 .adc (s.operand (.reg .c)) s

/-- R184 `ADC A,D`. -/
def execAdc_A_D (s : State) : Host.Outcome State Fault Refusal := accumulate 0x8A .adc (s.operand (.reg .d)) s

/-- R184 `ADC A,E`. -/
def execAdc_A_E (s : State) : Host.Outcome State Fault Refusal := accumulate 0x8B .adc (s.operand (.reg .e)) s

/-- R184 `ADC A,H`. -/
def execAdc_A_H (s : State) : Host.Outcome State Fault Refusal := accumulate 0x8C .adc (s.operand (.reg .h)) s

/-- R184 `ADC A,L`. -/
def execAdc_A_L (s : State) : Host.Outcome State Fault Refusal := accumulate 0x8D .adc (s.operand (.reg .l)) s

/-- R184 `ADC A,(HL)`. -/
def execAdc_A_mHL (s : State) : Host.Outcome State Fault Refusal := accumulate 0x8E .adc (s.operand .memHL) s

/-- R184 `ADC A,A`. -/
def execAdc_A_A (s : State) : Host.Outcome State Fault Refusal := accumulate 0x8F .adc (s.operand (.reg .a)) s

/-- R186 `SUB B`. -/
def execSub_B (s : State) : Host.Outcome State Fault Refusal := accumulate 0x90 .sub (s.operand (.reg .b)) s

/-- R186 `SUB C`. -/
def execSub_C (s : State) : Host.Outcome State Fault Refusal := accumulate 0x91 .sub (s.operand (.reg .c)) s

/-- R186 `SUB D`. -/
def execSub_D (s : State) : Host.Outcome State Fault Refusal := accumulate 0x92 .sub (s.operand (.reg .d)) s

/-- R186 `SUB E`. -/
def execSub_E (s : State) : Host.Outcome State Fault Refusal := accumulate 0x93 .sub (s.operand (.reg .e)) s

/-- R186 `SUB H`. -/
def execSub_H (s : State) : Host.Outcome State Fault Refusal := accumulate 0x94 .sub (s.operand (.reg .h)) s

/-- R186 `SUB L`. -/
def execSub_L (s : State) : Host.Outcome State Fault Refusal := accumulate 0x95 .sub (s.operand (.reg .l)) s

/-- R186 `SUB (HL)`. -/
def execSub_mHL (s : State) : Host.Outcome State Fault Refusal := accumulate 0x96 .sub (s.operand .memHL) s

/-- R186 `SUB A`. -/
def execSub_A (s : State) : Host.Outcome State Fault Refusal := accumulate 0x97 .sub (s.operand (.reg .a)) s

/-- R188 `SBC A,B`. -/
def execSbc_A_B (s : State) : Host.Outcome State Fault Refusal := accumulate 0x98 .sbc (s.operand (.reg .b)) s

/-- R188 `SBC A,C`. -/
def execSbc_A_C (s : State) : Host.Outcome State Fault Refusal := accumulate 0x99 .sbc (s.operand (.reg .c)) s

/-- R188 `SBC A,D`. -/
def execSbc_A_D (s : State) : Host.Outcome State Fault Refusal := accumulate 0x9A .sbc (s.operand (.reg .d)) s

/-- R188 `SBC A,E`. -/
def execSbc_A_E (s : State) : Host.Outcome State Fault Refusal := accumulate 0x9B .sbc (s.operand (.reg .e)) s

/-- R188 `SBC A,H`. -/
def execSbc_A_H (s : State) : Host.Outcome State Fault Refusal := accumulate 0x9C .sbc (s.operand (.reg .h)) s

/-- R188 `SBC A,L`. -/
def execSbc_A_L (s : State) : Host.Outcome State Fault Refusal := accumulate 0x9D .sbc (s.operand (.reg .l)) s

/-- R188 `SBC A,(HL)`. -/
def execSbc_A_mHL (s : State) : Host.Outcome State Fault Refusal := accumulate 0x9E .sbc (s.operand .memHL) s

/-- R188 `SBC A,A`. -/
def execSbc_A_A (s : State) : Host.Outcome State Fault Refusal := accumulate 0x9F .sbc (s.operand (.reg .a)) s

/-- R190 `AND B`. -/
def execAnd_B (s : State) : Host.Outcome State Fault Refusal := accumulate 0xA0 .and (s.operand (.reg .b)) s

/-- R190 `AND C`. -/
def execAnd_C (s : State) : Host.Outcome State Fault Refusal := accumulate 0xA1 .and (s.operand (.reg .c)) s

/-- R190 `AND D`. -/
def execAnd_D (s : State) : Host.Outcome State Fault Refusal := accumulate 0xA2 .and (s.operand (.reg .d)) s

/-- R190 `AND E`. -/
def execAnd_E (s : State) : Host.Outcome State Fault Refusal := accumulate 0xA3 .and (s.operand (.reg .e)) s

/-- R190 `AND H`. -/
def execAnd_H (s : State) : Host.Outcome State Fault Refusal := accumulate 0xA4 .and (s.operand (.reg .h)) s

/-- R190 `AND L`. -/
def execAnd_L (s : State) : Host.Outcome State Fault Refusal := accumulate 0xA5 .and (s.operand (.reg .l)) s

/-- R190 `AND (HL)`. -/
def execAnd_mHL (s : State) : Host.Outcome State Fault Refusal := accumulate 0xA6 .and (s.operand .memHL) s

/-- R190 `AND A`. -/
def execAnd_A (s : State) : Host.Outcome State Fault Refusal := accumulate 0xA7 .and (s.operand (.reg .a)) s

/-- R192 `XOR B`. -/
def execXor_B (s : State) : Host.Outcome State Fault Refusal := accumulate 0xA8 .xor (s.operand (.reg .b)) s

/-- R192 `XOR C`. -/
def execXor_C (s : State) : Host.Outcome State Fault Refusal := accumulate 0xA9 .xor (s.operand (.reg .c)) s

/-- R192 `XOR D`. -/
def execXor_D (s : State) : Host.Outcome State Fault Refusal := accumulate 0xAA .xor (s.operand (.reg .d)) s

/-- R192 `XOR E`. -/
def execXor_E (s : State) : Host.Outcome State Fault Refusal := accumulate 0xAB .xor (s.operand (.reg .e)) s

/-- R192 `XOR H`. -/
def execXor_H (s : State) : Host.Outcome State Fault Refusal := accumulate 0xAC .xor (s.operand (.reg .h)) s

/-- R192 `XOR L`. -/
def execXor_L (s : State) : Host.Outcome State Fault Refusal := accumulate 0xAD .xor (s.operand (.reg .l)) s

/-- R192 `XOR (HL)`. -/
def execXor_mHL (s : State) : Host.Outcome State Fault Refusal := accumulate 0xAE .xor (s.operand .memHL) s

/-- R192 `XOR A`. -/
def execXor_A (s : State) : Host.Outcome State Fault Refusal := accumulate 0xAF .xor (s.operand (.reg .a)) s

/-- R194 `OR B`. -/
def execOr_B (s : State) : Host.Outcome State Fault Refusal := accumulate 0xB0 .or (s.operand (.reg .b)) s

/-- R194 `OR C`. -/
def execOr_C (s : State) : Host.Outcome State Fault Refusal := accumulate 0xB1 .or (s.operand (.reg .c)) s

/-- R194 `OR D`. -/
def execOr_D (s : State) : Host.Outcome State Fault Refusal := accumulate 0xB2 .or (s.operand (.reg .d)) s

/-- R194 `OR E`. -/
def execOr_E (s : State) : Host.Outcome State Fault Refusal := accumulate 0xB3 .or (s.operand (.reg .e)) s

/-- R194 `OR H`. -/
def execOr_H (s : State) : Host.Outcome State Fault Refusal := accumulate 0xB4 .or (s.operand (.reg .h)) s

/-- R194 `OR L`. -/
def execOr_L (s : State) : Host.Outcome State Fault Refusal := accumulate 0xB5 .or (s.operand (.reg .l)) s

/-- R194 `OR (HL)`. -/
def execOr_mHL (s : State) : Host.Outcome State Fault Refusal := accumulate 0xB6 .or (s.operand .memHL) s

/-- R194 `OR A`. -/
def execOr_A (s : State) : Host.Outcome State Fault Refusal := accumulate 0xB7 .or (s.operand (.reg .a)) s

/-- R196 `CP B`. -/
def execCp_B (s : State) : Host.Outcome State Fault Refusal := accumulate 0xB8 .cp (s.operand (.reg .b)) s

/-- R196 `CP C`. -/
def execCp_C (s : State) : Host.Outcome State Fault Refusal := accumulate 0xB9 .cp (s.operand (.reg .c)) s

/-- R196 `CP D`. -/
def execCp_D (s : State) : Host.Outcome State Fault Refusal := accumulate 0xBA .cp (s.operand (.reg .d)) s

/-- R196 `CP E`. -/
def execCp_E (s : State) : Host.Outcome State Fault Refusal := accumulate 0xBB .cp (s.operand (.reg .e)) s

/-- R196 `CP H`. -/
def execCp_H (s : State) : Host.Outcome State Fault Refusal := accumulate 0xBC .cp (s.operand (.reg .h)) s

/-- R196 `CP L`. -/
def execCp_L (s : State) : Host.Outcome State Fault Refusal := accumulate 0xBD .cp (s.operand (.reg .l)) s

/-- R196 `CP (HL)`. -/
def execCp_mHL (s : State) : Host.Outcome State Fault Refusal := accumulate 0xBE .cp (s.operand .memHL) s

/-- R196 `CP A`. -/
def execCp_A (s : State) : Host.Outcome State Fault Refusal := accumulate 0xBF .cp (s.operand (.reg .a)) s

/-- R183 `ADD A,d8`. -/
def execAdd_A_d8 (n : Byte) (s : State) : Host.Outcome State Fault Refusal := accumulate 0xC6 .add n s

/-- R185 `ADC A,d8`. -/
def execAdc_A_d8 (n : Byte) (s : State) : Host.Outcome State Fault Refusal := accumulate 0xCE .adc n s

/-- R187 `SUB d8`. -/
def execSub_d8 (n : Byte) (s : State) : Host.Outcome State Fault Refusal := accumulate 0xD6 .sub n s

/-- R189 `SBC A,d8`. -/
def execSbc_A_d8 (n : Byte) (s : State) : Host.Outcome State Fault Refusal := accumulate 0xDE .sbc n s

/-- R191 `AND d8`. -/
def execAnd_d8 (n : Byte) (s : State) : Host.Outcome State Fault Refusal := accumulate 0xE6 .and n s

/-- R193 `XOR d8`. -/
def execXor_d8 (n : Byte) (s : State) : Host.Outcome State Fault Refusal := accumulate 0xEE .xor n s

/-- R195 `OR d8`. -/
def execOr_d8 (n : Byte) (s : State) : Host.Outcome State Fault Refusal := accumulate 0xF6 .or n s

/-- R197 `CP d8`. -/
def execCp_d8 (n : Byte) (s : State) : Host.Outcome State Fault Refusal := accumulate 0xFE .cp n s

end Sys2Proof.Machine
end

