-- ==== Sys2Proof/Machine/BitOps.lean ====
section
/-!
DEFINITION. `BIT`, `RES` and `SET` (spec/44_rotate_shift_bit.md R233 to R235). `op` is the byte after the prefix.
-/

namespace Sys2Proof.Machine

/-- R233: fC is kept and the operand is not written. -/
def testBit (op : Byte) (b : Fin 8) (x : Operand8) (s : State) : Host.Outcome State Fault Refusal :=
  finish op true true (s.setFlags (!(s.operand x).getLsbD b) false true s.fC)

/-- R234: no flag is written. -/
def resetBit (op : Byte) (b : Fin 8) (x : Operand8) (s : State) : Host.Outcome State Fault Refusal :=
  finish op true true (s.setOperand x (s.operand x &&& ~~~bitMask b))

/-- R235: no flag is written. -/
def setBit (op : Byte) (b : Fin 8) (x : Operand8) (s : State) : Host.Outcome State Fault Refusal :=
  finish op true true (s.setOperand x (s.operand x ||| bitMask b))

/-- R233 `BIT 0,B`. -/
def execBit_0_B (s : State) : Host.Outcome State Fault Refusal := testBit 0x40 0 (.reg .b) s

/-- R233 `BIT 0,C`. -/
def execBit_0_C (s : State) : Host.Outcome State Fault Refusal := testBit 0x41 0 (.reg .c) s

/-- R233 `BIT 0,D`. -/
def execBit_0_D (s : State) : Host.Outcome State Fault Refusal := testBit 0x42 0 (.reg .d) s

/-- R233 `BIT 0,E`. -/
def execBit_0_E (s : State) : Host.Outcome State Fault Refusal := testBit 0x43 0 (.reg .e) s

/-- R233 `BIT 0,H`. -/
def execBit_0_H (s : State) : Host.Outcome State Fault Refusal := testBit 0x44 0 (.reg .h) s

/-- R233 `BIT 0,L`. -/
def execBit_0_L (s : State) : Host.Outcome State Fault Refusal := testBit 0x45 0 (.reg .l) s

/-- R233 `BIT 0,(HL)`. -/
def execBit_0_mHL (s : State) : Host.Outcome State Fault Refusal := testBit 0x46 0 .memHL s

/-- R233 `BIT 0,A`. -/
def execBit_0_A (s : State) : Host.Outcome State Fault Refusal := testBit 0x47 0 (.reg .a) s

/-- R233 `BIT 1,B`. -/
def execBit_1_B (s : State) : Host.Outcome State Fault Refusal := testBit 0x48 1 (.reg .b) s

/-- R233 `BIT 1,C`. -/
def execBit_1_C (s : State) : Host.Outcome State Fault Refusal := testBit 0x49 1 (.reg .c) s

/-- R233 `BIT 1,D`. -/
def execBit_1_D (s : State) : Host.Outcome State Fault Refusal := testBit 0x4A 1 (.reg .d) s

/-- R233 `BIT 1,E`. -/
def execBit_1_E (s : State) : Host.Outcome State Fault Refusal := testBit 0x4B 1 (.reg .e) s

/-- R233 `BIT 1,H`. -/
def execBit_1_H (s : State) : Host.Outcome State Fault Refusal := testBit 0x4C 1 (.reg .h) s

/-- R233 `BIT 1,L`. -/
def execBit_1_L (s : State) : Host.Outcome State Fault Refusal := testBit 0x4D 1 (.reg .l) s

/-- R233 `BIT 1,(HL)`. -/
def execBit_1_mHL (s : State) : Host.Outcome State Fault Refusal := testBit 0x4E 1 .memHL s

/-- R233 `BIT 1,A`. -/
def execBit_1_A (s : State) : Host.Outcome State Fault Refusal := testBit 0x4F 1 (.reg .a) s

/-- R233 `BIT 2,B`. -/
def execBit_2_B (s : State) : Host.Outcome State Fault Refusal := testBit 0x50 2 (.reg .b) s

/-- R233 `BIT 2,C`. -/
def execBit_2_C (s : State) : Host.Outcome State Fault Refusal := testBit 0x51 2 (.reg .c) s

/-- R233 `BIT 2,D`. -/
def execBit_2_D (s : State) : Host.Outcome State Fault Refusal := testBit 0x52 2 (.reg .d) s

/-- R233 `BIT 2,E`. -/
def execBit_2_E (s : State) : Host.Outcome State Fault Refusal := testBit 0x53 2 (.reg .e) s

/-- R233 `BIT 2,H`. -/
def execBit_2_H (s : State) : Host.Outcome State Fault Refusal := testBit 0x54 2 (.reg .h) s

/-- R233 `BIT 2,L`. -/
def execBit_2_L (s : State) : Host.Outcome State Fault Refusal := testBit 0x55 2 (.reg .l) s

/-- R233 `BIT 2,(HL)`. -/
def execBit_2_mHL (s : State) : Host.Outcome State Fault Refusal := testBit 0x56 2 .memHL s

/-- R233 `BIT 2,A`. -/
def execBit_2_A (s : State) : Host.Outcome State Fault Refusal := testBit 0x57 2 (.reg .a) s

/-- R233 `BIT 3,B`. -/
def execBit_3_B (s : State) : Host.Outcome State Fault Refusal := testBit 0x58 3 (.reg .b) s

/-- R233 `BIT 3,C`. -/
def execBit_3_C (s : State) : Host.Outcome State Fault Refusal := testBit 0x59 3 (.reg .c) s

/-- R233 `BIT 3,D`. -/
def execBit_3_D (s : State) : Host.Outcome State Fault Refusal := testBit 0x5A 3 (.reg .d) s

/-- R233 `BIT 3,E`. -/
def execBit_3_E (s : State) : Host.Outcome State Fault Refusal := testBit 0x5B 3 (.reg .e) s

/-- R233 `BIT 3,H`. -/
def execBit_3_H (s : State) : Host.Outcome State Fault Refusal := testBit 0x5C 3 (.reg .h) s

/-- R233 `BIT 3,L`. -/
def execBit_3_L (s : State) : Host.Outcome State Fault Refusal := testBit 0x5D 3 (.reg .l) s

/-- R233 `BIT 3,(HL)`. -/
def execBit_3_mHL (s : State) : Host.Outcome State Fault Refusal := testBit 0x5E 3 .memHL s

/-- R233 `BIT 3,A`. -/
def execBit_3_A (s : State) : Host.Outcome State Fault Refusal := testBit 0x5F 3 (.reg .a) s

/-- R233 `BIT 4,B`. -/
def execBit_4_B (s : State) : Host.Outcome State Fault Refusal := testBit 0x60 4 (.reg .b) s

/-- R233 `BIT 4,C`. -/
def execBit_4_C (s : State) : Host.Outcome State Fault Refusal := testBit 0x61 4 (.reg .c) s

/-- R233 `BIT 4,D`. -/
def execBit_4_D (s : State) : Host.Outcome State Fault Refusal := testBit 0x62 4 (.reg .d) s

/-- R233 `BIT 4,E`. -/
def execBit_4_E (s : State) : Host.Outcome State Fault Refusal := testBit 0x63 4 (.reg .e) s

/-- R233 `BIT 4,H`. -/
def execBit_4_H (s : State) : Host.Outcome State Fault Refusal := testBit 0x64 4 (.reg .h) s

/-- R233 `BIT 4,L`. -/
def execBit_4_L (s : State) : Host.Outcome State Fault Refusal := testBit 0x65 4 (.reg .l) s

/-- R233 `BIT 4,(HL)`. -/
def execBit_4_mHL (s : State) : Host.Outcome State Fault Refusal := testBit 0x66 4 .memHL s

/-- R233 `BIT 4,A`. -/
def execBit_4_A (s : State) : Host.Outcome State Fault Refusal := testBit 0x67 4 (.reg .a) s

/-- R233 `BIT 5,B`. -/
def execBit_5_B (s : State) : Host.Outcome State Fault Refusal := testBit 0x68 5 (.reg .b) s

/-- R233 `BIT 5,C`. -/
def execBit_5_C (s : State) : Host.Outcome State Fault Refusal := testBit 0x69 5 (.reg .c) s

/-- R233 `BIT 5,D`. -/
def execBit_5_D (s : State) : Host.Outcome State Fault Refusal := testBit 0x6A 5 (.reg .d) s

/-- R233 `BIT 5,E`. -/
def execBit_5_E (s : State) : Host.Outcome State Fault Refusal := testBit 0x6B 5 (.reg .e) s

/-- R233 `BIT 5,H`. -/
def execBit_5_H (s : State) : Host.Outcome State Fault Refusal := testBit 0x6C 5 (.reg .h) s

/-- R233 `BIT 5,L`. -/
def execBit_5_L (s : State) : Host.Outcome State Fault Refusal := testBit 0x6D 5 (.reg .l) s

/-- R233 `BIT 5,(HL)`. -/
def execBit_5_mHL (s : State) : Host.Outcome State Fault Refusal := testBit 0x6E 5 .memHL s

/-- R233 `BIT 5,A`. -/
def execBit_5_A (s : State) : Host.Outcome State Fault Refusal := testBit 0x6F 5 (.reg .a) s

/-- R233 `BIT 6,B`. -/
def execBit_6_B (s : State) : Host.Outcome State Fault Refusal := testBit 0x70 6 (.reg .b) s

/-- R233 `BIT 6,C`. -/
def execBit_6_C (s : State) : Host.Outcome State Fault Refusal := testBit 0x71 6 (.reg .c) s

/-- R233 `BIT 6,D`. -/
def execBit_6_D (s : State) : Host.Outcome State Fault Refusal := testBit 0x72 6 (.reg .d) s

/-- R233 `BIT 6,E`. -/
def execBit_6_E (s : State) : Host.Outcome State Fault Refusal := testBit 0x73 6 (.reg .e) s

/-- R233 `BIT 6,H`. -/
def execBit_6_H (s : State) : Host.Outcome State Fault Refusal := testBit 0x74 6 (.reg .h) s

/-- R233 `BIT 6,L`. -/
def execBit_6_L (s : State) : Host.Outcome State Fault Refusal := testBit 0x75 6 (.reg .l) s

/-- R233 `BIT 6,(HL)`. -/
def execBit_6_mHL (s : State) : Host.Outcome State Fault Refusal := testBit 0x76 6 .memHL s

/-- R233 `BIT 6,A`. -/
def execBit_6_A (s : State) : Host.Outcome State Fault Refusal := testBit 0x77 6 (.reg .a) s

/-- R233 `BIT 7,B`. -/
def execBit_7_B (s : State) : Host.Outcome State Fault Refusal := testBit 0x78 7 (.reg .b) s

/-- R233 `BIT 7,C`. -/
def execBit_7_C (s : State) : Host.Outcome State Fault Refusal := testBit 0x79 7 (.reg .c) s

/-- R233 `BIT 7,D`. -/
def execBit_7_D (s : State) : Host.Outcome State Fault Refusal := testBit 0x7A 7 (.reg .d) s

/-- R233 `BIT 7,E`. -/
def execBit_7_E (s : State) : Host.Outcome State Fault Refusal := testBit 0x7B 7 (.reg .e) s

/-- R233 `BIT 7,H`. -/
def execBit_7_H (s : State) : Host.Outcome State Fault Refusal := testBit 0x7C 7 (.reg .h) s

/-- R233 `BIT 7,L`. -/
def execBit_7_L (s : State) : Host.Outcome State Fault Refusal := testBit 0x7D 7 (.reg .l) s

/-- R233 `BIT 7,(HL)`. -/
def execBit_7_mHL (s : State) : Host.Outcome State Fault Refusal := testBit 0x7E 7 .memHL s

/-- R233 `BIT 7,A`. -/
def execBit_7_A (s : State) : Host.Outcome State Fault Refusal := testBit 0x7F 7 (.reg .a) s

/-- R234 `RES 0,B`. -/
def execRes_0_B (s : State) : Host.Outcome State Fault Refusal := resetBit 0x80 0 (.reg .b) s

/-- R234 `RES 0,C`. -/
def execRes_0_C (s : State) : Host.Outcome State Fault Refusal := resetBit 0x81 0 (.reg .c) s

/-- R234 `RES 0,D`. -/
def execRes_0_D (s : State) : Host.Outcome State Fault Refusal := resetBit 0x82 0 (.reg .d) s

/-- R234 `RES 0,E`. -/
def execRes_0_E (s : State) : Host.Outcome State Fault Refusal := resetBit 0x83 0 (.reg .e) s

/-- R234 `RES 0,H`. -/
def execRes_0_H (s : State) : Host.Outcome State Fault Refusal := resetBit 0x84 0 (.reg .h) s

/-- R234 `RES 0,L`. -/
def execRes_0_L (s : State) : Host.Outcome State Fault Refusal := resetBit 0x85 0 (.reg .l) s

/-- R234 `RES 0,(HL)`. -/
def execRes_0_mHL (s : State) : Host.Outcome State Fault Refusal := resetBit 0x86 0 .memHL s

/-- R234 `RES 0,A`. -/
def execRes_0_A (s : State) : Host.Outcome State Fault Refusal := resetBit 0x87 0 (.reg .a) s

/-- R234 `RES 1,B`. -/
def execRes_1_B (s : State) : Host.Outcome State Fault Refusal := resetBit 0x88 1 (.reg .b) s

/-- R234 `RES 1,C`. -/
def execRes_1_C (s : State) : Host.Outcome State Fault Refusal := resetBit 0x89 1 (.reg .c) s

/-- R234 `RES 1,D`. -/
def execRes_1_D (s : State) : Host.Outcome State Fault Refusal := resetBit 0x8A 1 (.reg .d) s

/-- R234 `RES 1,E`. -/
def execRes_1_E (s : State) : Host.Outcome State Fault Refusal := resetBit 0x8B 1 (.reg .e) s

/-- R234 `RES 1,H`. -/
def execRes_1_H (s : State) : Host.Outcome State Fault Refusal := resetBit 0x8C 1 (.reg .h) s

/-- R234 `RES 1,L`. -/
def execRes_1_L (s : State) : Host.Outcome State Fault Refusal := resetBit 0x8D 1 (.reg .l) s

/-- R234 `RES 1,(HL)`. -/
def execRes_1_mHL (s : State) : Host.Outcome State Fault Refusal := resetBit 0x8E 1 .memHL s

/-- R234 `RES 1,A`. -/
def execRes_1_A (s : State) : Host.Outcome State Fault Refusal := resetBit 0x8F 1 (.reg .a) s

/-- R234 `RES 2,B`. -/
def execRes_2_B (s : State) : Host.Outcome State Fault Refusal := resetBit 0x90 2 (.reg .b) s

/-- R234 `RES 2,C`. -/
def execRes_2_C (s : State) : Host.Outcome State Fault Refusal := resetBit 0x91 2 (.reg .c) s

/-- R234 `RES 2,D`. -/
def execRes_2_D (s : State) : Host.Outcome State Fault Refusal := resetBit 0x92 2 (.reg .d) s

/-- R234 `RES 2,E`. -/
def execRes_2_E (s : State) : Host.Outcome State Fault Refusal := resetBit 0x93 2 (.reg .e) s

/-- R234 `RES 2,H`. -/
def execRes_2_H (s : State) : Host.Outcome State Fault Refusal := resetBit 0x94 2 (.reg .h) s

/-- R234 `RES 2,L`. -/
def execRes_2_L (s : State) : Host.Outcome State Fault Refusal := resetBit 0x95 2 (.reg .l) s

/-- R234 `RES 2,(HL)`. -/
def execRes_2_mHL (s : State) : Host.Outcome State Fault Refusal := resetBit 0x96 2 .memHL s

/-- R234 `RES 2,A`. -/
def execRes_2_A (s : State) : Host.Outcome State Fault Refusal := resetBit 0x97 2 (.reg .a) s

/-- R234 `RES 3,B`. -/
def execRes_3_B (s : State) : Host.Outcome State Fault Refusal := resetBit 0x98 3 (.reg .b) s

/-- R234 `RES 3,C`. -/
def execRes_3_C (s : State) : Host.Outcome State Fault Refusal := resetBit 0x99 3 (.reg .c) s

/-- R234 `RES 3,D`. -/
def execRes_3_D (s : State) : Host.Outcome State Fault Refusal := resetBit 0x9A 3 (.reg .d) s

/-- R234 `RES 3,E`. -/
def execRes_3_E (s : State) : Host.Outcome State Fault Refusal := resetBit 0x9B 3 (.reg .e) s

/-- R234 `RES 3,H`. -/
def execRes_3_H (s : State) : Host.Outcome State Fault Refusal := resetBit 0x9C 3 (.reg .h) s

/-- R234 `RES 3,L`. -/
def execRes_3_L (s : State) : Host.Outcome State Fault Refusal := resetBit 0x9D 3 (.reg .l) s

/-- R234 `RES 3,(HL)`. -/
def execRes_3_mHL (s : State) : Host.Outcome State Fault Refusal := resetBit 0x9E 3 .memHL s

/-- R234 `RES 3,A`. -/
def execRes_3_A (s : State) : Host.Outcome State Fault Refusal := resetBit 0x9F 3 (.reg .a) s

/-- R234 `RES 4,B`. -/
def execRes_4_B (s : State) : Host.Outcome State Fault Refusal := resetBit 0xA0 4 (.reg .b) s

/-- R234 `RES 4,C`. -/
def execRes_4_C (s : State) : Host.Outcome State Fault Refusal := resetBit 0xA1 4 (.reg .c) s

/-- R234 `RES 4,D`. -/
def execRes_4_D (s : State) : Host.Outcome State Fault Refusal := resetBit 0xA2 4 (.reg .d) s

/-- R234 `RES 4,E`. -/
def execRes_4_E (s : State) : Host.Outcome State Fault Refusal := resetBit 0xA3 4 (.reg .e) s

/-- R234 `RES 4,H`. -/
def execRes_4_H (s : State) : Host.Outcome State Fault Refusal := resetBit 0xA4 4 (.reg .h) s

/-- R234 `RES 4,L`. -/
def execRes_4_L (s : State) : Host.Outcome State Fault Refusal := resetBit 0xA5 4 (.reg .l) s

/-- R234 `RES 4,(HL)`. -/
def execRes_4_mHL (s : State) : Host.Outcome State Fault Refusal := resetBit 0xA6 4 .memHL s

/-- R234 `RES 4,A`. -/
def execRes_4_A (s : State) : Host.Outcome State Fault Refusal := resetBit 0xA7 4 (.reg .a) s

/-- R234 `RES 5,B`. -/
def execRes_5_B (s : State) : Host.Outcome State Fault Refusal := resetBit 0xA8 5 (.reg .b) s

/-- R234 `RES 5,C`. -/
def execRes_5_C (s : State) : Host.Outcome State Fault Refusal := resetBit 0xA9 5 (.reg .c) s

/-- R234 `RES 5,D`. -/
def execRes_5_D (s : State) : Host.Outcome State Fault Refusal := resetBit 0xAA 5 (.reg .d) s

/-- R234 `RES 5,E`. -/
def execRes_5_E (s : State) : Host.Outcome State Fault Refusal := resetBit 0xAB 5 (.reg .e) s

/-- R234 `RES 5,H`. -/
def execRes_5_H (s : State) : Host.Outcome State Fault Refusal := resetBit 0xAC 5 (.reg .h) s

/-- R234 `RES 5,L`. -/
def execRes_5_L (s : State) : Host.Outcome State Fault Refusal := resetBit 0xAD 5 (.reg .l) s

/-- R234 `RES 5,(HL)`. -/
def execRes_5_mHL (s : State) : Host.Outcome State Fault Refusal := resetBit 0xAE 5 .memHL s

/-- R234 `RES 5,A`. -/
def execRes_5_A (s : State) : Host.Outcome State Fault Refusal := resetBit 0xAF 5 (.reg .a) s

/-- R234 `RES 6,B`. -/
def execRes_6_B (s : State) : Host.Outcome State Fault Refusal := resetBit 0xB0 6 (.reg .b) s

/-- R234 `RES 6,C`. -/
def execRes_6_C (s : State) : Host.Outcome State Fault Refusal := resetBit 0xB1 6 (.reg .c) s

/-- R234 `RES 6,D`. -/
def execRes_6_D (s : State) : Host.Outcome State Fault Refusal := resetBit 0xB2 6 (.reg .d) s

/-- R234 `RES 6,E`. -/
def execRes_6_E (s : State) : Host.Outcome State Fault Refusal := resetBit 0xB3 6 (.reg .e) s

/-- R234 `RES 6,H`. -/
def execRes_6_H (s : State) : Host.Outcome State Fault Refusal := resetBit 0xB4 6 (.reg .h) s

/-- R234 `RES 6,L`. -/
def execRes_6_L (s : State) : Host.Outcome State Fault Refusal := resetBit 0xB5 6 (.reg .l) s

/-- R234 `RES 6,(HL)`. -/
def execRes_6_mHL (s : State) : Host.Outcome State Fault Refusal := resetBit 0xB6 6 .memHL s

/-- R234 `RES 6,A`. -/
def execRes_6_A (s : State) : Host.Outcome State Fault Refusal := resetBit 0xB7 6 (.reg .a) s

/-- R234 `RES 7,B`. -/
def execRes_7_B (s : State) : Host.Outcome State Fault Refusal := resetBit 0xB8 7 (.reg .b) s

/-- R234 `RES 7,C`. -/
def execRes_7_C (s : State) : Host.Outcome State Fault Refusal := resetBit 0xB9 7 (.reg .c) s

/-- R234 `RES 7,D`. -/
def execRes_7_D (s : State) : Host.Outcome State Fault Refusal := resetBit 0xBA 7 (.reg .d) s

/-- R234 `RES 7,E`. -/
def execRes_7_E (s : State) : Host.Outcome State Fault Refusal := resetBit 0xBB 7 (.reg .e) s

/-- R234 `RES 7,H`. -/
def execRes_7_H (s : State) : Host.Outcome State Fault Refusal := resetBit 0xBC 7 (.reg .h) s

/-- R234 `RES 7,L`. -/
def execRes_7_L (s : State) : Host.Outcome State Fault Refusal := resetBit 0xBD 7 (.reg .l) s

/-- R234 `RES 7,(HL)`. -/
def execRes_7_mHL (s : State) : Host.Outcome State Fault Refusal := resetBit 0xBE 7 .memHL s

/-- R234 `RES 7,A`. -/
def execRes_7_A (s : State) : Host.Outcome State Fault Refusal := resetBit 0xBF 7 (.reg .a) s

/-- R235 `SET 0,B`. -/
def execSet_0_B (s : State) : Host.Outcome State Fault Refusal := setBit 0xC0 0 (.reg .b) s

/-- R235 `SET 0,C`. -/
def execSet_0_C (s : State) : Host.Outcome State Fault Refusal := setBit 0xC1 0 (.reg .c) s

/-- R235 `SET 0,D`. -/
def execSet_0_D (s : State) : Host.Outcome State Fault Refusal := setBit 0xC2 0 (.reg .d) s

/-- R235 `SET 0,E`. -/
def execSet_0_E (s : State) : Host.Outcome State Fault Refusal := setBit 0xC3 0 (.reg .e) s

/-- R235 `SET 0,H`. -/
def execSet_0_H (s : State) : Host.Outcome State Fault Refusal := setBit 0xC4 0 (.reg .h) s

/-- R235 `SET 0,L`. -/
def execSet_0_L (s : State) : Host.Outcome State Fault Refusal := setBit 0xC5 0 (.reg .l) s

/-- R235 `SET 0,(HL)`. -/
def execSet_0_mHL (s : State) : Host.Outcome State Fault Refusal := setBit 0xC6 0 .memHL s

/-- R235 `SET 0,A`. -/
def execSet_0_A (s : State) : Host.Outcome State Fault Refusal := setBit 0xC7 0 (.reg .a) s

/-- R235 `SET 1,B`. -/
def execSet_1_B (s : State) : Host.Outcome State Fault Refusal := setBit 0xC8 1 (.reg .b) s

/-- R235 `SET 1,C`. -/
def execSet_1_C (s : State) : Host.Outcome State Fault Refusal := setBit 0xC9 1 (.reg .c) s

/-- R235 `SET 1,D`. -/
def execSet_1_D (s : State) : Host.Outcome State Fault Refusal := setBit 0xCA 1 (.reg .d) s

/-- R235 `SET 1,E`. -/
def execSet_1_E (s : State) : Host.Outcome State Fault Refusal := setBit 0xCB 1 (.reg .e) s

/-- R235 `SET 1,H`. -/
def execSet_1_H (s : State) : Host.Outcome State Fault Refusal := setBit 0xCC 1 (.reg .h) s

/-- R235 `SET 1,L`. -/
def execSet_1_L (s : State) : Host.Outcome State Fault Refusal := setBit 0xCD 1 (.reg .l) s

/-- R235 `SET 1,(HL)`. -/
def execSet_1_mHL (s : State) : Host.Outcome State Fault Refusal := setBit 0xCE 1 .memHL s

/-- R235 `SET 1,A`. -/
def execSet_1_A (s : State) : Host.Outcome State Fault Refusal := setBit 0xCF 1 (.reg .a) s

/-- R235 `SET 2,B`. -/
def execSet_2_B (s : State) : Host.Outcome State Fault Refusal := setBit 0xD0 2 (.reg .b) s

/-- R235 `SET 2,C`. -/
def execSet_2_C (s : State) : Host.Outcome State Fault Refusal := setBit 0xD1 2 (.reg .c) s

/-- R235 `SET 2,D`. -/
def execSet_2_D (s : State) : Host.Outcome State Fault Refusal := setBit 0xD2 2 (.reg .d) s

/-- R235 `SET 2,E`. -/
def execSet_2_E (s : State) : Host.Outcome State Fault Refusal := setBit 0xD3 2 (.reg .e) s

/-- R235 `SET 2,H`. -/
def execSet_2_H (s : State) : Host.Outcome State Fault Refusal := setBit 0xD4 2 (.reg .h) s

/-- R235 `SET 2,L`. -/
def execSet_2_L (s : State) : Host.Outcome State Fault Refusal := setBit 0xD5 2 (.reg .l) s

/-- R235 `SET 2,(HL)`. -/
def execSet_2_mHL (s : State) : Host.Outcome State Fault Refusal := setBit 0xD6 2 .memHL s

/-- R235 `SET 2,A`. -/
def execSet_2_A (s : State) : Host.Outcome State Fault Refusal := setBit 0xD7 2 (.reg .a) s

/-- R235 `SET 3,B`. -/
def execSet_3_B (s : State) : Host.Outcome State Fault Refusal := setBit 0xD8 3 (.reg .b) s

/-- R235 `SET 3,C`. -/
def execSet_3_C (s : State) : Host.Outcome State Fault Refusal := setBit 0xD9 3 (.reg .c) s

/-- R235 `SET 3,D`. -/
def execSet_3_D (s : State) : Host.Outcome State Fault Refusal := setBit 0xDA 3 (.reg .d) s

/-- R235 `SET 3,E`. -/
def execSet_3_E (s : State) : Host.Outcome State Fault Refusal := setBit 0xDB 3 (.reg .e) s

/-- R235 `SET 3,H`. -/
def execSet_3_H (s : State) : Host.Outcome State Fault Refusal := setBit 0xDC 3 (.reg .h) s

/-- R235 `SET 3,L`. -/
def execSet_3_L (s : State) : Host.Outcome State Fault Refusal := setBit 0xDD 3 (.reg .l) s

/-- R235 `SET 3,(HL)`. -/
def execSet_3_mHL (s : State) : Host.Outcome State Fault Refusal := setBit 0xDE 3 .memHL s

/-- R235 `SET 3,A`. -/
def execSet_3_A (s : State) : Host.Outcome State Fault Refusal := setBit 0xDF 3 (.reg .a) s

/-- R235 `SET 4,B`. -/
def execSet_4_B (s : State) : Host.Outcome State Fault Refusal := setBit 0xE0 4 (.reg .b) s

/-- R235 `SET 4,C`. -/
def execSet_4_C (s : State) : Host.Outcome State Fault Refusal := setBit 0xE1 4 (.reg .c) s

/-- R235 `SET 4,D`. -/
def execSet_4_D (s : State) : Host.Outcome State Fault Refusal := setBit 0xE2 4 (.reg .d) s

/-- R235 `SET 4,E`. -/
def execSet_4_E (s : State) : Host.Outcome State Fault Refusal := setBit 0xE3 4 (.reg .e) s

/-- R235 `SET 4,H`. -/
def execSet_4_H (s : State) : Host.Outcome State Fault Refusal := setBit 0xE4 4 (.reg .h) s

/-- R235 `SET 4,L`. -/
def execSet_4_L (s : State) : Host.Outcome State Fault Refusal := setBit 0xE5 4 (.reg .l) s

/-- R235 `SET 4,(HL)`. -/
def execSet_4_mHL (s : State) : Host.Outcome State Fault Refusal := setBit 0xE6 4 .memHL s

/-- R235 `SET 4,A`. -/
def execSet_4_A (s : State) : Host.Outcome State Fault Refusal := setBit 0xE7 4 (.reg .a) s

/-- R235 `SET 5,B`. -/
def execSet_5_B (s : State) : Host.Outcome State Fault Refusal := setBit 0xE8 5 (.reg .b) s

/-- R235 `SET 5,C`. -/
def execSet_5_C (s : State) : Host.Outcome State Fault Refusal := setBit 0xE9 5 (.reg .c) s

/-- R235 `SET 5,D`. -/
def execSet_5_D (s : State) : Host.Outcome State Fault Refusal := setBit 0xEA 5 (.reg .d) s

/-- R235 `SET 5,E`. -/
def execSet_5_E (s : State) : Host.Outcome State Fault Refusal := setBit 0xEB 5 (.reg .e) s

/-- R235 `SET 5,H`. -/
def execSet_5_H (s : State) : Host.Outcome State Fault Refusal := setBit 0xEC 5 (.reg .h) s

/-- R235 `SET 5,L`. -/
def execSet_5_L (s : State) : Host.Outcome State Fault Refusal := setBit 0xED 5 (.reg .l) s

/-- R235 `SET 5,(HL)`. -/
def execSet_5_mHL (s : State) : Host.Outcome State Fault Refusal := setBit 0xEE 5 .memHL s

/-- R235 `SET 5,A`. -/
def execSet_5_A (s : State) : Host.Outcome State Fault Refusal := setBit 0xEF 5 (.reg .a) s

/-- R235 `SET 6,B`. -/
def execSet_6_B (s : State) : Host.Outcome State Fault Refusal := setBit 0xF0 6 (.reg .b) s

/-- R235 `SET 6,C`. -/
def execSet_6_C (s : State) : Host.Outcome State Fault Refusal := setBit 0xF1 6 (.reg .c) s

/-- R235 `SET 6,D`. -/
def execSet_6_D (s : State) : Host.Outcome State Fault Refusal := setBit 0xF2 6 (.reg .d) s

/-- R235 `SET 6,E`. -/
def execSet_6_E (s : State) : Host.Outcome State Fault Refusal := setBit 0xF3 6 (.reg .e) s

/-- R235 `SET 6,H`. -/
def execSet_6_H (s : State) : Host.Outcome State Fault Refusal := setBit 0xF4 6 (.reg .h) s

/-- R235 `SET 6,L`. -/
def execSet_6_L (s : State) : Host.Outcome State Fault Refusal := setBit 0xF5 6 (.reg .l) s

/-- R235 `SET 6,(HL)`. -/
def execSet_6_mHL (s : State) : Host.Outcome State Fault Refusal := setBit 0xF6 6 .memHL s

/-- R235 `SET 6,A`. -/
def execSet_6_A (s : State) : Host.Outcome State Fault Refusal := setBit 0xF7 6 (.reg .a) s

/-- R235 `SET 7,B`. -/
def execSet_7_B (s : State) : Host.Outcome State Fault Refusal := setBit 0xF8 7 (.reg .b) s

/-- R235 `SET 7,C`. -/
def execSet_7_C (s : State) : Host.Outcome State Fault Refusal := setBit 0xF9 7 (.reg .c) s

/-- R235 `SET 7,D`. -/
def execSet_7_D (s : State) : Host.Outcome State Fault Refusal := setBit 0xFA 7 (.reg .d) s

/-- R235 `SET 7,E`. -/
def execSet_7_E (s : State) : Host.Outcome State Fault Refusal := setBit 0xFB 7 (.reg .e) s

/-- R235 `SET 7,H`. -/
def execSet_7_H (s : State) : Host.Outcome State Fault Refusal := setBit 0xFC 7 (.reg .h) s

/-- R235 `SET 7,L`. -/
def execSet_7_L (s : State) : Host.Outcome State Fault Refusal := setBit 0xFD 7 (.reg .l) s

/-- R235 `SET 7,(HL)`. -/
def execSet_7_mHL (s : State) : Host.Outcome State Fault Refusal := setBit 0xFE 7 .memHL s

/-- R235 `SET 7,A`. -/
def execSet_7_A (s : State) : Host.Outcome State Fault Refusal := setBit 0xFF 7 (.reg .a) s

end Sys2Proof.Machine
end

