-- ==== Sys2Proof/Machine/Control.lean ====
section
/-!
DEFINITION. Jumps, calls and returns (spec/45_control.md R250 to R261). `PC` is already past the instruction, so it is the
return address, and the base of a relative jump.
-/

namespace Sys2Proof.Machine

/-- R254: the target of a relative jump. -/
def State.relative (s : State) (e : Byte) : Word := s.pc + sext16 e

/-- R256: the return address is pushed, then `PC` is the target. -/
def State.call (s : State) (target : Word) : State := (s.push16 s.pc).setPc target

/-- R258: `PC` is popped. -/
def State.ret (s : State) : State := (s.setPc s.top16).dropTop

/-- R252, R255. -/
def jumpIf (op : Byte) (cc : Cond) (target : Word) (s : State) : Host.Outcome State Fault Refusal :=
  if s.cond cc then finish op false true (s.setPc target) else finish op false false s

/-- R257. -/
def callIf (op : Byte) (cc : Cond) (target : Word) (s : State) : Host.Outcome State Fault Refusal :=
  if s.cond cc then finish op false true (s.call target) else finish op false false s

/-- R259. -/
def returnIf (op : Byte) (cc : Cond) (s : State) : Host.Outcome State Fault Refusal :=
  if s.cond cc then finish op false true s.ret else finish op false false s

/-- R254 `JR e8`. -/
def execJr_e8 (e : Byte) (s : State) : Host.Outcome State Fault Refusal := finish 0x18 false true (s.setPc (s.relative e))

/-- R255 `JR NZ,e8`. -/
def execJr_NZ_e8 (e : Byte) (s : State) : Host.Outcome State Fault Refusal := jumpIf 0x20 .nz (s.relative e) s

/-- R255 `JR Z,e8`. -/
def execJr_Z_e8 (e : Byte) (s : State) : Host.Outcome State Fault Refusal := jumpIf 0x28 .z (s.relative e) s

/-- R255 `JR NC,e8`. -/
def execJr_NC_e8 (e : Byte) (s : State) : Host.Outcome State Fault Refusal := jumpIf 0x30 .nc (s.relative e) s

/-- R255 `JR C,e8`. -/
def execJr_C_e8 (e : Byte) (s : State) : Host.Outcome State Fault Refusal := jumpIf 0x38 .c (s.relative e) s

/-- R259 `RET NZ`. -/
def execRet_NZ (s : State) : Host.Outcome State Fault Refusal := returnIf 0xC0 .nz s

/-- R252 `JP NZ,a16`. -/
def execJp_NZ_a16 (w : Word) (s : State) : Host.Outcome State Fault Refusal := jumpIf 0xC2 .nz w s

/-- R251 `JP a16`. -/
def execJp_a16 (w : Word) (s : State) : Host.Outcome State Fault Refusal := finish 0xC3 false true (s.setPc w)

/-- R257 `CALL NZ,a16`. -/
def execCall_NZ_a16 (w : Word) (s : State) : Host.Outcome State Fault Refusal := callIf 0xC4 .nz w s

/-- R260 `RST 0x00`. -/
def execRst_00 (s : State) : Host.Outcome State Fault Refusal := finish 0xC7 false true (s.call 0x0000)

/-- R259 `RET Z`. -/
def execRet_Z (s : State) : Host.Outcome State Fault Refusal := returnIf 0xC8 .z s

/-- R258 `RET`. -/
def execRet (s : State) : Host.Outcome State Fault Refusal := finish 0xC9 false true s.ret

/-- R252 `JP Z,a16`. -/
def execJp_Z_a16 (w : Word) (s : State) : Host.Outcome State Fault Refusal := jumpIf 0xCA .z w s

/-- R257 `CALL Z,a16`. -/
def execCall_Z_a16 (w : Word) (s : State) : Host.Outcome State Fault Refusal := callIf 0xCC .z w s

/-- R256 `CALL a16`. -/
def execCall_a16 (w : Word) (s : State) : Host.Outcome State Fault Refusal := finish 0xCD false true (s.call w)

/-- R260 `RST 0x08`. -/
def execRst_08 (s : State) : Host.Outcome State Fault Refusal := finish 0xCF false true (s.call 0x0008)

/-- R259 `RET NC`. -/
def execRet_NC (s : State) : Host.Outcome State Fault Refusal := returnIf 0xD0 .nc s

/-- R252 `JP NC,a16`. -/
def execJp_NC_a16 (w : Word) (s : State) : Host.Outcome State Fault Refusal := jumpIf 0xD2 .nc w s

/-- R257 `CALL NC,a16`. -/
def execCall_NC_a16 (w : Word) (s : State) : Host.Outcome State Fault Refusal := callIf 0xD4 .nc w s

/-- R260 `RST 0x10`. -/
def execRst_10 (s : State) : Host.Outcome State Fault Refusal := finish 0xD7 false true (s.call 0x0010)

/-- R259 `RET C`. -/
def execRet_C (s : State) : Host.Outcome State Fault Refusal := returnIf 0xD8 .c s

/-- R261 `RETI`. -/
def execReti (s : State) : Host.Outcome State Fault Refusal := finish 0xD9 false true s.returnFromInterrupt

/-- R252 `JP C,a16`. -/
def execJp_C_a16 (w : Word) (s : State) : Host.Outcome State Fault Refusal := jumpIf 0xDA .c w s

/-- R257 `CALL C,a16`. -/
def execCall_C_a16 (w : Word) (s : State) : Host.Outcome State Fault Refusal := callIf 0xDC .c w s

/-- R260 `RST 0x18`. -/
def execRst_18 (s : State) : Host.Outcome State Fault Refusal := finish 0xDF false true (s.call 0x0018)

/-- R260 `RST 0x20`. -/
def execRst_20 (s : State) : Host.Outcome State Fault Refusal := finish 0xE7 false true (s.call 0x0020)

/-- R253 `JP HL`. -/
def execJp_HL (s : State) : Host.Outcome State Fault Refusal := finish 0xE9 false true (s.setPc s.hl)

/-- R260 `RST 0x28`. -/
def execRst_28 (s : State) : Host.Outcome State Fault Refusal := finish 0xEF false true (s.call 0x0028)

/-- R260 `RST 0x30`. -/
def execRst_30 (s : State) : Host.Outcome State Fault Refusal := finish 0xF7 false true (s.call 0x0030)

/-- R260 `RST 0x38`. -/
def execRst_38 (s : State) : Host.Outcome State Fault Refusal := finish 0xFF false true (s.call 0x0038)

end Sys2Proof.Machine
end

