-- ==== Sys2Proof/Machine/Load16.lean ====
section
/-!
DEFINITION. The 16-bit loads and the stack (spec/41_load16_stack.md R160 to R167).
-/

namespace Sys2Proof.Machine

/-- R160. -/
def loadPair (op : Byte) (p : Pair) (w : Word) (s : State) : Host.Outcome State Fault Refusal := finish op false true (s.setPair p w)

/-- R164, R165. -/
def pushPair (op : Byte) (q : StackPair) (s : State) : Host.Outcome State Fault Refusal := finish op false true (s.push16 (s.stackPair q))

/-- R166, R167. -/
def popPair (op : Byte) (q : StackPair) (s : State) : Host.Outcome State Fault Refusal :=
  finish op false true (s.dropTop.setStackPair q s.top16)

/-- R160 `LD BC,d16`. -/
def execLd_BC_d16 (w : Word) (s : State) : Host.Outcome State Fault Refusal := loadPair 0x01 .bc w s

/-- R161 `LD (a16),SP`. -/
def execLd_ma16_SP (w : Word) (s : State) : Host.Outcome State Fault Refusal := finish 0x08 false true (s.write16 w s.sp)

/-- R160 `LD DE,d16`. -/
def execLd_DE_d16 (w : Word) (s : State) : Host.Outcome State Fault Refusal := loadPair 0x11 .de w s

/-- R160 `LD HL,d16`. -/
def execLd_HL_d16 (w : Word) (s : State) : Host.Outcome State Fault Refusal := loadPair 0x21 .hl w s

/-- R160 `LD SP,d16`. -/
def execLd_SP_d16 (w : Word) (s : State) : Host.Outcome State Fault Refusal := loadPair 0x31 .sp w s

/-- R166 `POP BC`. -/
def execPop_BC (s : State) : Host.Outcome State Fault Refusal := popPair 0xC1 .bc s

/-- R164 `PUSH BC`. -/
def execPush_BC (s : State) : Host.Outcome State Fault Refusal := pushPair 0xC5 .bc s

/-- R166 `POP DE`. -/
def execPop_DE (s : State) : Host.Outcome State Fault Refusal := popPair 0xD1 .de s

/-- R164 `PUSH DE`. -/
def execPush_DE (s : State) : Host.Outcome State Fault Refusal := pushPair 0xD5 .de s

/-- R166 `POP HL`. -/
def execPop_HL (s : State) : Host.Outcome State Fault Refusal := popPair 0xE1 .hl s

/-- R164 `PUSH HL`. -/
def execPush_HL (s : State) : Host.Outcome State Fault Refusal := pushPair 0xE5 .hl s

/-- R167 `POP AF`. -/
def execPop_AF (s : State) : Host.Outcome State Fault Refusal := popPair 0xF1 .af s

/-- R165 `PUSH AF`. -/
def execPush_AF (s : State) : Host.Outcome State Fault Refusal := pushPair 0xF5 .af s

/-- R162 `LD SP,HL`. -/
def execLd_SP_HL (s : State) : Host.Outcome State Fault Refusal := finish 0xF9 false true (s.setSp s.hl)

end Sys2Proof.Machine
end

