-- ==== Sys2Proof/Machine/Load8.lean ====
section
/-!
DEFINITION. The 8-bit loads (spec/40_load8.md R130 to R148): the operations they share, then one meaning per row of the table.
-/

namespace Sys2Proof.Machine

/-- R130. -/
def copyReg (op : Byte) (dst src : Reg8) (s : State) : Host.Outcome State Fault Refusal := finish op false true (s.setReg dst (s.reg src))

/-- R131. -/
def loadReg (op : Byte) (dst : Reg8) (s : State) : Host.Outcome State Fault Refusal := finish op false true (s.setReg dst (s.read8 s.hl))

/-- R132. -/
def storeReg (op : Byte) (src : Reg8) (s : State) : Host.Outcome State Fault Refusal := finish op false true (s.write8 s.hl (s.reg src))

/-- R133. -/
def loadImm (op : Byte) (dst : Reg8) (n : Byte) (s : State) : Host.Outcome State Fault Refusal := finish op false true (s.setReg dst n)

/-- R134, R137, R138, R140, R142, R144: a byte is stored through the bus. -/
def storeAt (op : Byte) (addr : Word) (v : Byte) (s : State) : Host.Outcome State Fault Refusal := finish op false true (s.write8 addr v)

/-- R135, R136, R139, R141, R143: `A` is loaded through the bus. -/
def loadA (op : Byte) (addr : Word) (s : State) : Host.Outcome State Fault Refusal := finish op false true (s.setReg .a (s.read8 addr))

/-- R110: `0xFF00 + n`. -/
def page0xFF (n : Byte) : Word := cat 0xFF n

/-- R145, R147: `A` is stored at `HL`, then `HL` moves by `delta`. -/
def storeStep (op : Byte) (delta : Word) (s : State) : Host.Outcome State Fault Refusal :=
  finish op false true ((s.write8 s.hl s.a).setPair .hl (s.hl + delta))

/-- R146, R148: `A` is loaded from `HL`, then `HL` moves by `delta`. -/
def loadStep (op : Byte) (delta : Word) (s : State) : Host.Outcome State Fault Refusal :=
  finish op false true ((s.setReg .a (s.read8 s.hl)).setPair .hl (s.hl + delta))

/-- R137 `LD (BC),A`. -/
def execLd_mBC_A (s : State) : Host.Outcome State Fault Refusal := storeAt 0x02 s.bc s.a s

/-- R133 `LD B,d8`. -/
def execLd_B_d8 (n : Byte) (s : State) : Host.Outcome State Fault Refusal := loadImm 0x06 .b n s

/-- R135 `LD A,(BC)`. -/
def execLd_A_mBC (s : State) : Host.Outcome State Fault Refusal := loadA 0x0A s.bc s

/-- R133 `LD C,d8`. -/
def execLd_C_d8 (n : Byte) (s : State) : Host.Outcome State Fault Refusal := loadImm 0x0E .c n s

/-- R138 `LD (DE),A`. -/
def execLd_mDE_A (s : State) : Host.Outcome State Fault Refusal := storeAt 0x12 s.de s.a s

/-- R133 `LD D,d8`. -/
def execLd_D_d8 (n : Byte) (s : State) : Host.Outcome State Fault Refusal := loadImm 0x16 .d n s

/-- R136 `LD A,(DE)`. -/
def execLd_A_mDE (s : State) : Host.Outcome State Fault Refusal := loadA 0x1A s.de s

/-- R133 `LD E,d8`. -/
def execLd_E_d8 (n : Byte) (s : State) : Host.Outcome State Fault Refusal := loadImm 0x1E .e n s

/-- R145 `LD (HL+),A`. -/
def execLd_mHLinc_A (s : State) : Host.Outcome State Fault Refusal := storeStep 0x22 1 s

/-- R133 `LD H,d8`. -/
def execLd_H_d8 (n : Byte) (s : State) : Host.Outcome State Fault Refusal := loadImm 0x26 .h n s

/-- R146 `LD A,(HL+)`. -/
def execLd_A_mHLinc (s : State) : Host.Outcome State Fault Refusal := loadStep 0x2A 1 s

/-- R133 `LD L,d8`. -/
def execLd_L_d8 (n : Byte) (s : State) : Host.Outcome State Fault Refusal := loadImm 0x2E .l n s

/-- R147 `LD (HL-),A`. -/
def execLd_mHLdec_A (s : State) : Host.Outcome State Fault Refusal := storeStep 0x32 (-1) s

/-- R134 `LD (HL),d8`. -/
def execLd_mHL_d8 (n : Byte) (s : State) : Host.Outcome State Fault Refusal := storeAt 0x36 s.hl n s

/-- R148 `LD A,(HL-)`. -/
def execLd_A_mHLdec (s : State) : Host.Outcome State Fault Refusal := loadStep 0x3A (-1) s

/-- R133 `LD A,d8`. -/
def execLd_A_d8 (n : Byte) (s : State) : Host.Outcome State Fault Refusal := loadImm 0x3E .a n s

/-- R130 `LD B,B`. -/
def execLd_B_B (s : State) : Host.Outcome State Fault Refusal := copyReg 0x40 .b .b s

/-- R130 `LD B,C`. -/
def execLd_B_C (s : State) : Host.Outcome State Fault Refusal := copyReg 0x41 .b .c s

/-- R130 `LD B,D`. -/
def execLd_B_D (s : State) : Host.Outcome State Fault Refusal := copyReg 0x42 .b .d s

/-- R130 `LD B,E`. -/
def execLd_B_E (s : State) : Host.Outcome State Fault Refusal := copyReg 0x43 .b .e s

/-- R130 `LD B,H`. -/
def execLd_B_H (s : State) : Host.Outcome State Fault Refusal := copyReg 0x44 .b .h s

/-- R130 `LD B,L`. -/
def execLd_B_L (s : State) : Host.Outcome State Fault Refusal := copyReg 0x45 .b .l s

/-- R131 `LD B,(HL)`. -/
def execLd_B_mHL (s : State) : Host.Outcome State Fault Refusal := loadReg 0x46 .b s

/-- R130 `LD B,A`. -/
def execLd_B_A (s : State) : Host.Outcome State Fault Refusal := copyReg 0x47 .b .a s

/-- R130 `LD C,B`. -/
def execLd_C_B (s : State) : Host.Outcome State Fault Refusal := copyReg 0x48 .c .b s

/-- R130 `LD C,C`. -/
def execLd_C_C (s : State) : Host.Outcome State Fault Refusal := copyReg 0x49 .c .c s

/-- R130 `LD C,D`. -/
def execLd_C_D (s : State) : Host.Outcome State Fault Refusal := copyReg 0x4A .c .d s

/-- R130 `LD C,E`. -/
def execLd_C_E (s : State) : Host.Outcome State Fault Refusal := copyReg 0x4B .c .e s

/-- R130 `LD C,H`. -/
def execLd_C_H (s : State) : Host.Outcome State Fault Refusal := copyReg 0x4C .c .h s

/-- R130 `LD C,L`. -/
def execLd_C_L (s : State) : Host.Outcome State Fault Refusal := copyReg 0x4D .c .l s

/-- R131 `LD C,(HL)`. -/
def execLd_C_mHL (s : State) : Host.Outcome State Fault Refusal := loadReg 0x4E .c s

/-- R130 `LD C,A`. -/
def execLd_C_A (s : State) : Host.Outcome State Fault Refusal := copyReg 0x4F .c .a s

/-- R130 `LD D,B`. -/
def execLd_D_B (s : State) : Host.Outcome State Fault Refusal := copyReg 0x50 .d .b s

/-- R130 `LD D,C`. -/
def execLd_D_C (s : State) : Host.Outcome State Fault Refusal := copyReg 0x51 .d .c s

/-- R130 `LD D,D`. -/
def execLd_D_D (s : State) : Host.Outcome State Fault Refusal := copyReg 0x52 .d .d s

/-- R130 `LD D,E`. -/
def execLd_D_E (s : State) : Host.Outcome State Fault Refusal := copyReg 0x53 .d .e s

/-- R130 `LD D,H`. -/
def execLd_D_H (s : State) : Host.Outcome State Fault Refusal := copyReg 0x54 .d .h s

/-- R130 `LD D,L`. -/
def execLd_D_L (s : State) : Host.Outcome State Fault Refusal := copyReg 0x55 .d .l s

/-- R131 `LD D,(HL)`. -/
def execLd_D_mHL (s : State) : Host.Outcome State Fault Refusal := loadReg 0x56 .d s

/-- R130 `LD D,A`. -/
def execLd_D_A (s : State) : Host.Outcome State Fault Refusal := copyReg 0x57 .d .a s

/-- R130 `LD E,B`. -/
def execLd_E_B (s : State) : Host.Outcome State Fault Refusal := copyReg 0x58 .e .b s

/-- R130 `LD E,C`. -/
def execLd_E_C (s : State) : Host.Outcome State Fault Refusal := copyReg 0x59 .e .c s

/-- R130 `LD E,D`. -/
def execLd_E_D (s : State) : Host.Outcome State Fault Refusal := copyReg 0x5A .e .d s

/-- R130 `LD E,E`. -/
def execLd_E_E (s : State) : Host.Outcome State Fault Refusal := copyReg 0x5B .e .e s

/-- R130 `LD E,H`. -/
def execLd_E_H (s : State) : Host.Outcome State Fault Refusal := copyReg 0x5C .e .h s

/-- R130 `LD E,L`. -/
def execLd_E_L (s : State) : Host.Outcome State Fault Refusal := copyReg 0x5D .e .l s

/-- R131 `LD E,(HL)`. -/
def execLd_E_mHL (s : State) : Host.Outcome State Fault Refusal := loadReg 0x5E .e s

/-- R130 `LD E,A`. -/
def execLd_E_A (s : State) : Host.Outcome State Fault Refusal := copyReg 0x5F .e .a s

/-- R130 `LD H,B`. -/
def execLd_H_B (s : State) : Host.Outcome State Fault Refusal := copyReg 0x60 .h .b s

/-- R130 `LD H,C`. -/
def execLd_H_C (s : State) : Host.Outcome State Fault Refusal := copyReg 0x61 .h .c s

/-- R130 `LD H,D`. -/
def execLd_H_D (s : State) : Host.Outcome State Fault Refusal := copyReg 0x62 .h .d s

/-- R130 `LD H,E`. -/
def execLd_H_E (s : State) : Host.Outcome State Fault Refusal := copyReg 0x63 .h .e s

/-- R130 `LD H,H`. -/
def execLd_H_H (s : State) : Host.Outcome State Fault Refusal := copyReg 0x64 .h .h s

/-- R130 `LD H,L`. -/
def execLd_H_L (s : State) : Host.Outcome State Fault Refusal := copyReg 0x65 .h .l s

/-- R131 `LD H,(HL)`. -/
def execLd_H_mHL (s : State) : Host.Outcome State Fault Refusal := loadReg 0x66 .h s

/-- R130 `LD H,A`. -/
def execLd_H_A (s : State) : Host.Outcome State Fault Refusal := copyReg 0x67 .h .a s

/-- R130 `LD L,B`. -/
def execLd_L_B (s : State) : Host.Outcome State Fault Refusal := copyReg 0x68 .l .b s

/-- R130 `LD L,C`. -/
def execLd_L_C (s : State) : Host.Outcome State Fault Refusal := copyReg 0x69 .l .c s

/-- R130 `LD L,D`. -/
def execLd_L_D (s : State) : Host.Outcome State Fault Refusal := copyReg 0x6A .l .d s

/-- R130 `LD L,E`. -/
def execLd_L_E (s : State) : Host.Outcome State Fault Refusal := copyReg 0x6B .l .e s

/-- R130 `LD L,H`. -/
def execLd_L_H (s : State) : Host.Outcome State Fault Refusal := copyReg 0x6C .l .h s

/-- R130 `LD L,L`. -/
def execLd_L_L (s : State) : Host.Outcome State Fault Refusal := copyReg 0x6D .l .l s

/-- R131 `LD L,(HL)`. -/
def execLd_L_mHL (s : State) : Host.Outcome State Fault Refusal := loadReg 0x6E .l s

/-- R130 `LD L,A`. -/
def execLd_L_A (s : State) : Host.Outcome State Fault Refusal := copyReg 0x6F .l .a s

/-- R132 `LD (HL),B`. -/
def execLd_mHL_B (s : State) : Host.Outcome State Fault Refusal := storeReg 0x70 .b s

/-- R132 `LD (HL),C`. -/
def execLd_mHL_C (s : State) : Host.Outcome State Fault Refusal := storeReg 0x71 .c s

/-- R132 `LD (HL),D`. -/
def execLd_mHL_D (s : State) : Host.Outcome State Fault Refusal := storeReg 0x72 .d s

/-- R132 `LD (HL),E`. -/
def execLd_mHL_E (s : State) : Host.Outcome State Fault Refusal := storeReg 0x73 .e s

/-- R132 `LD (HL),H`. -/
def execLd_mHL_H (s : State) : Host.Outcome State Fault Refusal := storeReg 0x74 .h s

/-- R132 `LD (HL),L`. -/
def execLd_mHL_L (s : State) : Host.Outcome State Fault Refusal := storeReg 0x75 .l s

/-- R132 `LD (HL),A`. -/
def execLd_mHL_A (s : State) : Host.Outcome State Fault Refusal := storeReg 0x77 .a s

/-- R130 `LD A,B`. -/
def execLd_A_B (s : State) : Host.Outcome State Fault Refusal := copyReg 0x78 .a .b s

/-- R130 `LD A,C`. -/
def execLd_A_C (s : State) : Host.Outcome State Fault Refusal := copyReg 0x79 .a .c s

/-- R130 `LD A,D`. -/
def execLd_A_D (s : State) : Host.Outcome State Fault Refusal := copyReg 0x7A .a .d s

/-- R130 `LD A,E`. -/
def execLd_A_E (s : State) : Host.Outcome State Fault Refusal := copyReg 0x7B .a .e s

/-- R130 `LD A,H`. -/
def execLd_A_H (s : State) : Host.Outcome State Fault Refusal := copyReg 0x7C .a .h s

/-- R130 `LD A,L`. -/
def execLd_A_L (s : State) : Host.Outcome State Fault Refusal := copyReg 0x7D .a .l s

/-- R131 `LD A,(HL)`. -/
def execLd_A_mHL (s : State) : Host.Outcome State Fault Refusal := loadReg 0x7E .a s

/-- R130 `LD A,A`. -/
def execLd_A_A (s : State) : Host.Outcome State Fault Refusal := copyReg 0x7F .a .a s

/-- R142 `LDH (a8),A`. -/
def execLdh_ma8_A (n : Byte) (s : State) : Host.Outcome State Fault Refusal := storeAt 0xE0 (page0xFF n) s.a s

/-- R144 `LD (C),A`. -/
def execLd_mC_A (s : State) : Host.Outcome State Fault Refusal := storeAt 0xE2 (page0xFF s.c) s.a s

/-- R140 `LD (a16),A`. -/
def execLd_ma16_A (w : Word) (s : State) : Host.Outcome State Fault Refusal := storeAt 0xEA w s.a s

/-- R141 `LDH A,(a8)`. -/
def execLdh_A_ma8 (n : Byte) (s : State) : Host.Outcome State Fault Refusal := loadA 0xF0 (page0xFF n) s

/-- R143 `LD A,(C)`. -/
def execLd_A_mC (s : State) : Host.Outcome State Fault Refusal := loadA 0xF2 (page0xFF s.c) s

/-- R139 `LD A,(a16)`. -/
def execLd_A_ma16 (w : Word) (s : State) : Host.Outcome State Fault Refusal := loadA 0xFA w s

end Sys2Proof.Machine
end

