-- ==== Sys2Proof/Machine/RotateShift.lean ====
section
/-!
DEFINITION. Rotates and shifts, and the prefix 0xCB (spec/44_rotate_shift_bit.md R220 to R232). `op` of a prefixed instruction
is the byte after the prefix.
-/

namespace Sys2Proof.Machine

/-- R220 to R223: fZ is cleared whatever the result. -/
def rotateA (op : Byte) (o : Rot) (s : State) : Host.Outcome State Fault Refusal :=
  let q := rotOut o s.a s.fC
  finish op false true ((s.setReg .a q.1).setFlags false false false q.2)

/-- R225 to R232: fZ from the result. -/
def rotate (op : Byte) (o : Rot) (x : Operand8) (s : State) : Host.Outcome State Fault Refusal :=
  let q := rotOut o (s.operand x) s.fC
  finish op true true ((s.setOperand x q.1).setFlags (q.1 == 0) false false q.2)

/-- R224, R111: the entry of the second table that `op2` selects, by its fields. -/
def prefixed (op2 : Byte) (s : State) : Host.Outcome State Fault Refusal :=
  match fieldX op2 with
  | 0 => rotate op2 (rotOf (fieldY op2)) (operandOf (fieldZ op2)) s
  | 1 => testBit op2 (fieldY op2) (operandOf (fieldZ op2)) s
  | 2 => resetBit op2 (fieldY op2) (operandOf (fieldZ op2)) s
  | _ => setBit op2 (fieldY op2) (operandOf (fieldZ op2)) s

/-- R220 `RLCA`. -/
def execRlca (s : State) : Host.Outcome State Fault Refusal := rotateA 0x07 .rlc s

/-- R221 `RRCA`. -/
def execRrca (s : State) : Host.Outcome State Fault Refusal := rotateA 0x0F .rrc s

/-- R222 `RLA`. -/
def execRla (s : State) : Host.Outcome State Fault Refusal := rotateA 0x17 .rl s

/-- R223 `RRA`. -/
def execRra (s : State) : Host.Outcome State Fault Refusal := rotateA 0x1F .rr s

/-- R224 `PREFIX CB`. -/
def execPrefix_CB (op2 : Byte) (s : State) : Host.Outcome State Fault Refusal := prefixed op2 s

/-- R225 `RLC B`. -/
def execRlc_B (s : State) : Host.Outcome State Fault Refusal := rotate 0x00 .rlc (.reg .b) s

/-- R225 `RLC C`. -/
def execRlc_C (s : State) : Host.Outcome State Fault Refusal := rotate 0x01 .rlc (.reg .c) s

/-- R225 `RLC D`. -/
def execRlc_D (s : State) : Host.Outcome State Fault Refusal := rotate 0x02 .rlc (.reg .d) s

/-- R225 `RLC E`. -/
def execRlc_E (s : State) : Host.Outcome State Fault Refusal := rotate 0x03 .rlc (.reg .e) s

/-- R225 `RLC H`. -/
def execRlc_H (s : State) : Host.Outcome State Fault Refusal := rotate 0x04 .rlc (.reg .h) s

/-- R225 `RLC L`. -/
def execRlc_L (s : State) : Host.Outcome State Fault Refusal := rotate 0x05 .rlc (.reg .l) s

/-- R225 `RLC (HL)`. -/
def execRlc_mHL (s : State) : Host.Outcome State Fault Refusal := rotate 0x06 .rlc .memHL s

/-- R225 `RLC A`. -/
def execRlc_A (s : State) : Host.Outcome State Fault Refusal := rotate 0x07 .rlc (.reg .a) s

/-- R226 `RRC B`. -/
def execRrc_B (s : State) : Host.Outcome State Fault Refusal := rotate 0x08 .rrc (.reg .b) s

/-- R226 `RRC C`. -/
def execRrc_C (s : State) : Host.Outcome State Fault Refusal := rotate 0x09 .rrc (.reg .c) s

/-- R226 `RRC D`. -/
def execRrc_D (s : State) : Host.Outcome State Fault Refusal := rotate 0x0A .rrc (.reg .d) s

/-- R226 `RRC E`. -/
def execRrc_E (s : State) : Host.Outcome State Fault Refusal := rotate 0x0B .rrc (.reg .e) s

/-- R226 `RRC H`. -/
def execRrc_H (s : State) : Host.Outcome State Fault Refusal := rotate 0x0C .rrc (.reg .h) s

/-- R226 `RRC L`. -/
def execRrc_L (s : State) : Host.Outcome State Fault Refusal := rotate 0x0D .rrc (.reg .l) s

/-- R226 `RRC (HL)`. -/
def execRrc_mHL (s : State) : Host.Outcome State Fault Refusal := rotate 0x0E .rrc .memHL s

/-- R226 `RRC A`. -/
def execRrc_A (s : State) : Host.Outcome State Fault Refusal := rotate 0x0F .rrc (.reg .a) s

/-- R227 `RL B`. -/
def execRl_B (s : State) : Host.Outcome State Fault Refusal := rotate 0x10 .rl (.reg .b) s

/-- R227 `RL C`. -/
def execRl_C (s : State) : Host.Outcome State Fault Refusal := rotate 0x11 .rl (.reg .c) s

/-- R227 `RL D`. -/
def execRl_D (s : State) : Host.Outcome State Fault Refusal := rotate 0x12 .rl (.reg .d) s

/-- R227 `RL E`. -/
def execRl_E (s : State) : Host.Outcome State Fault Refusal := rotate 0x13 .rl (.reg .e) s

/-- R227 `RL H`. -/
def execRl_H (s : State) : Host.Outcome State Fault Refusal := rotate 0x14 .rl (.reg .h) s

/-- R227 `RL L`. -/
def execRl_L (s : State) : Host.Outcome State Fault Refusal := rotate 0x15 .rl (.reg .l) s

/-- R227 `RL (HL)`. -/
def execRl_mHL (s : State) : Host.Outcome State Fault Refusal := rotate 0x16 .rl .memHL s

/-- R227 `RL A`. -/
def execRl_A (s : State) : Host.Outcome State Fault Refusal := rotate 0x17 .rl (.reg .a) s

/-- R228 `RR B`. -/
def execRr_B (s : State) : Host.Outcome State Fault Refusal := rotate 0x18 .rr (.reg .b) s

/-- R228 `RR C`. -/
def execRr_C (s : State) : Host.Outcome State Fault Refusal := rotate 0x19 .rr (.reg .c) s

/-- R228 `RR D`. -/
def execRr_D (s : State) : Host.Outcome State Fault Refusal := rotate 0x1A .rr (.reg .d) s

/-- R228 `RR E`. -/
def execRr_E (s : State) : Host.Outcome State Fault Refusal := rotate 0x1B .rr (.reg .e) s

/-- R228 `RR H`. -/
def execRr_H (s : State) : Host.Outcome State Fault Refusal := rotate 0x1C .rr (.reg .h) s

/-- R228 `RR L`. -/
def execRr_L (s : State) : Host.Outcome State Fault Refusal := rotate 0x1D .rr (.reg .l) s

/-- R228 `RR (HL)`. -/
def execRr_mHL (s : State) : Host.Outcome State Fault Refusal := rotate 0x1E .rr .memHL s

/-- R228 `RR A`. -/
def execRr_A (s : State) : Host.Outcome State Fault Refusal := rotate 0x1F .rr (.reg .a) s

/-- R229 `SLA B`. -/
def execSla_B (s : State) : Host.Outcome State Fault Refusal := rotate 0x20 .sla (.reg .b) s

/-- R229 `SLA C`. -/
def execSla_C (s : State) : Host.Outcome State Fault Refusal := rotate 0x21 .sla (.reg .c) s

/-- R229 `SLA D`. -/
def execSla_D (s : State) : Host.Outcome State Fault Refusal := rotate 0x22 .sla (.reg .d) s

/-- R229 `SLA E`. -/
def execSla_E (s : State) : Host.Outcome State Fault Refusal := rotate 0x23 .sla (.reg .e) s

/-- R229 `SLA H`. -/
def execSla_H (s : State) : Host.Outcome State Fault Refusal := rotate 0x24 .sla (.reg .h) s

/-- R229 `SLA L`. -/
def execSla_L (s : State) : Host.Outcome State Fault Refusal := rotate 0x25 .sla (.reg .l) s

/-- R229 `SLA (HL)`. -/
def execSla_mHL (s : State) : Host.Outcome State Fault Refusal := rotate 0x26 .sla .memHL s

/-- R229 `SLA A`. -/
def execSla_A (s : State) : Host.Outcome State Fault Refusal := rotate 0x27 .sla (.reg .a) s

/-- R230 `SRA B`. -/
def execSra_B (s : State) : Host.Outcome State Fault Refusal := rotate 0x28 .sra (.reg .b) s

/-- R230 `SRA C`. -/
def execSra_C (s : State) : Host.Outcome State Fault Refusal := rotate 0x29 .sra (.reg .c) s

/-- R230 `SRA D`. -/
def execSra_D (s : State) : Host.Outcome State Fault Refusal := rotate 0x2A .sra (.reg .d) s

/-- R230 `SRA E`. -/
def execSra_E (s : State) : Host.Outcome State Fault Refusal := rotate 0x2B .sra (.reg .e) s

/-- R230 `SRA H`. -/
def execSra_H (s : State) : Host.Outcome State Fault Refusal := rotate 0x2C .sra (.reg .h) s

/-- R230 `SRA L`. -/
def execSra_L (s : State) : Host.Outcome State Fault Refusal := rotate 0x2D .sra (.reg .l) s

/-- R230 `SRA (HL)`. -/
def execSra_mHL (s : State) : Host.Outcome State Fault Refusal := rotate 0x2E .sra .memHL s

/-- R230 `SRA A`. -/
def execSra_A (s : State) : Host.Outcome State Fault Refusal := rotate 0x2F .sra (.reg .a) s

/-- R231 `SWAP B`. -/
def execSwap_B (s : State) : Host.Outcome State Fault Refusal := rotate 0x30 .swap (.reg .b) s

/-- R231 `SWAP C`. -/
def execSwap_C (s : State) : Host.Outcome State Fault Refusal := rotate 0x31 .swap (.reg .c) s

/-- R231 `SWAP D`. -/
def execSwap_D (s : State) : Host.Outcome State Fault Refusal := rotate 0x32 .swap (.reg .d) s

/-- R231 `SWAP E`. -/
def execSwap_E (s : State) : Host.Outcome State Fault Refusal := rotate 0x33 .swap (.reg .e) s

/-- R231 `SWAP H`. -/
def execSwap_H (s : State) : Host.Outcome State Fault Refusal := rotate 0x34 .swap (.reg .h) s

/-- R231 `SWAP L`. -/
def execSwap_L (s : State) : Host.Outcome State Fault Refusal := rotate 0x35 .swap (.reg .l) s

/-- R231 `SWAP (HL)`. -/
def execSwap_mHL (s : State) : Host.Outcome State Fault Refusal := rotate 0x36 .swap .memHL s

/-- R231 `SWAP A`. -/
def execSwap_A (s : State) : Host.Outcome State Fault Refusal := rotate 0x37 .swap (.reg .a) s

/-- R232 `SRL B`. -/
def execSrl_B (s : State) : Host.Outcome State Fault Refusal := rotate 0x38 .srl (.reg .b) s

/-- R232 `SRL C`. -/
def execSrl_C (s : State) : Host.Outcome State Fault Refusal := rotate 0x39 .srl (.reg .c) s

/-- R232 `SRL D`. -/
def execSrl_D (s : State) : Host.Outcome State Fault Refusal := rotate 0x3A .srl (.reg .d) s

/-- R232 `SRL E`. -/
def execSrl_E (s : State) : Host.Outcome State Fault Refusal := rotate 0x3B .srl (.reg .e) s

/-- R232 `SRL H`. -/
def execSrl_H (s : State) : Host.Outcome State Fault Refusal := rotate 0x3C .srl (.reg .h) s

/-- R232 `SRL L`. -/
def execSrl_L (s : State) : Host.Outcome State Fault Refusal := rotate 0x3D .srl (.reg .l) s

/-- R232 `SRL (HL)`. -/
def execSrl_mHL (s : State) : Host.Outcome State Fault Refusal := rotate 0x3E .srl .memHL s

/-- R232 `SRL A`. -/
def execSrl_A (s : State) : Host.Outcome State Fault Refusal := rotate 0x3F .srl (.reg .a) s

end Sys2Proof.Machine
end

