-- ==== Sys2Proof/Machine/System.lean ====
section
/-!
DEFINITION. `NOP`, `HALT`, `STOP`, `DI`, `EI` and the eleven illegal opcodes (spec/46_system.md R270 to R275).
-/

namespace Sys2Proof.Machine

/-- R270 `NOP`. -/
def execNop (s : State) : Host.Outcome State Fault Refusal := finish 0x00 false true s

/-- R272 `STOP`. -/
def execStop (_pad : Byte) (s : State) : Host.Outcome State Fault Refusal := finish 0x10 false true { s with stopped := true }

/-- R271 `HALT`. -/
def execHalt (s : State) : Host.Outcome State Fault Refusal := finish 0x76 false true { s with halted := true }

/-- R275 `ILLEGAL 0xD3`. -/
def execIllegal_D3 (s : State) : Host.Outcome State Fault Refusal := .fault (s.decodeFault 0xD3)

/-- R275 `ILLEGAL 0xDB`. -/
def execIllegal_DB (s : State) : Host.Outcome State Fault Refusal := .fault (s.decodeFault 0xDB)

/-- R275 `ILLEGAL 0xDD`. -/
def execIllegal_DD (s : State) : Host.Outcome State Fault Refusal := .fault (s.decodeFault 0xDD)

/-- R275 `ILLEGAL 0xE3`. -/
def execIllegal_E3 (s : State) : Host.Outcome State Fault Refusal := .fault (s.decodeFault 0xE3)

/-- R275 `ILLEGAL 0xE4`. -/
def execIllegal_E4 (s : State) : Host.Outcome State Fault Refusal := .fault (s.decodeFault 0xE4)

/-- R275 `ILLEGAL 0xEB`. -/
def execIllegal_EB (s : State) : Host.Outcome State Fault Refusal := .fault (s.decodeFault 0xEB)

/-- R275 `ILLEGAL 0xEC`. -/
def execIllegal_EC (s : State) : Host.Outcome State Fault Refusal := .fault (s.decodeFault 0xEC)

/-- R275 `ILLEGAL 0xED`. -/
def execIllegal_ED (s : State) : Host.Outcome State Fault Refusal := .fault (s.decodeFault 0xED)

/-- R273 `DI`. -/
def execDi (s : State) : Host.Outcome State Fault Refusal := finish 0xF3 false true { s with ime := false }

/-- R275 `ILLEGAL 0xF4`. -/
def execIllegal_F4 (s : State) : Host.Outcome State Fault Refusal := .fault (s.decodeFault 0xF4)

/-- R274 `EI`. -/
def execEi (s : State) : Host.Outcome State Fault Refusal := finish 0xFB false true { s with ime := true }

/-- R275 `ILLEGAL 0xFC`. -/
def execIllegal_FC (s : State) : Host.Outcome State Fault Refusal := .fault (s.decodeFault 0xFC)

/-- R275 `ILLEGAL 0xFD`. -/
def execIllegal_FD (s : State) : Host.Outcome State Fault Refusal := .fault (s.decodeFault 0xFD)

end Sys2Proof.Machine
end

