-- ==== Sys2Proof/Machine/Interrupt.lean ====
section
/-!
DEFINITION. The interrupt delivery state machine (spec/60_exceptions.md R308 to R310).
-/

namespace Sys2Proof.Machine

/-- R308: the least `i` in 0..7 with `m[i] = 1`. -/
def lowestBit (m : Byte) : Option Nat := (List.range 8).find? (fun i => m.getLsbD i)

/-- R308: `pending & enabled`, all eight bits. -/
def State.pendingEnabled (s : State) : Byte := s.direct IF &&& s.direct IE

/-- R308, R309 `DeliverIfPending()`. -/
def State.deliverIfPending (s : State) : Stage :=
  s.unlessFaulted fun s =>
    if s.ime then
      match lowestBit s.pendingEnabled with
      | none => .ok s
      | some b => if b > 3 then raise s (.internalConsistencyFault b s.snapshot) else .ok (s.takeInterrupt b)
    else .ok s

end Sys2Proof.Machine
end

