-- ==== Sys2Proof/Config.lean ====
section
/-!
DEFINITION. The parameters of the machine that spec/00_scope.md R5 fixes from its source document, and the one parameter it
leaves open, `SHADE`, as a constant without a body (assumption log 4). The parameters R5 fixes by a decision of its own
stand in Machine/Params.lean; the two images `BIOS` and `ROM` are loaded data and stand in State (assumption log 2).
-/

namespace Sys2Proof.Config

/-- R5 `LINE_CYCLES`: the cycles of one scanline. -/
abbrev LINE_CYCLES : Nat := 456

/-- R5 `OAM_CYCLES`. -/
abbrev OAM_CYCLES : Nat := 80

/-- R5 `XFER_CYCLES`. -/
abbrev XFER_CYCLES : Nat := 172

/-- R5 `FB_W`: pixels of a row. -/
abbrev FB_W : Nat := 160

/-- R5 `FB_H`: rows of the frame buffer. -/
abbrev FB_H : Nat := 144

/-- R5, R346 `SHADE`: the four bytes of each of the "four fixed shades", which the spec leaves open (D34). No body: nothing
can be proved of its values, and a statement about the frame buffer holds for every choice of them. -/
opaque SHADE : BitVec 2 → Fin 4 → Byte

end Sys2Proof.Config
end

