-- ==== Sys2Proof/Machine/Renderer.lean ====
section
/-!
DEFINITION. The scanline renderer (spec/60_exceptions.md R340 to R347). `SHADE` is an argument here (R346), so that the
renderer can be evaluated for any choice of shades; the step passes `Config.SHADE`.
-/

namespace Sys2Proof.Machine

/-- R346: the type of `SHADE`. -/
abbrev Shades := BitVec 2 → Fin 4 → Byte

/-- R341: the window layer is used at pixel (y, x). -/
def windowVisible (s : State) (y x : Nat) : Bool :=
  (s.direct LCDC).getLsbD 5 && decide ((s.direct WY).toNat ≤ y) && decide ((s.direct WX).toNat ≤ x + 7)

/-- R340, R341: the position `(xp, yp)` in the chosen layer. -/
def layerPosition (s : State) (y x : Nat) : Nat × Nat :=
  if windowVisible s y x then (x + 7 - (s.direct WX).toNat, y - (s.direct WY).toNat)
  else ((x + (s.direct SCX).toNat) % 256, (y + (s.direct SCY).toNat) % 256)

/-- R340, R342: the base of the chosen layer's tile map. -/
def mapBase (s : State) (y x : Nat) : Nat :=
  let sel := if windowVisible s y x then 6 else 3
  if (s.direct LCDC).getLsbD sel then 0x9C00 else 0x9800

/-- R343: the address of tile `t`. -/
def tileAddress (s : State) (t : Byte) : Nat :=
  if (s.direct LCDC).getLsbD 4 then 0x8000 + 16 * t.toNat
  else if t.toNat < 128 then 0x9000 + 16 * t.toNat
  else 0x9000 + 16 * t.toNat - 0x1000

/-- R342 to R344: the colour index of pixel (y, x). -/
def colourIndex (s : State) (y x : Nat) : Nat :=
  let p := layerPosition s y x
  let t := s.direct (mapBase s y x + p.2 / 8 * 32 + p.1 / 8)
  let ta := tileAddress s t + 2 * (p.2 % 8)
  let k := 7 - p.1 % 8
  2 * ((s.direct (ta + 1)).getLsbD k).toNat + ((s.direct ta).getLsbD k).toNat

/-- R345: the shade the palette gives a colour index. -/
def paletteShade (bgp : Byte) (ci : Nat) : BitVec 2 := bgp.extractLsb' (2 * ci) 2

/-- R340, R346: the 640 bytes of row `y`. -/
def renderedRow (shades : Shades) (s : State) (y : Nat) : List Byte :=
  (List.range 640).map fun i => shades (paletteShade (s.direct BGP) (colourIndex s y (i / 4))) (Fin.ofNat 4 i)

/-- R340 `RenderLine(y)`. -/
def State.renderLine (shades : Shades) (s : State) (y : Nat) : State := { s with fb := s.fb.putRow y (renderedRow shades s y) }

end Sys2Proof.Machine
end

