-- ==== Sys2Proof/Machine/Ppu.lean ====
section
/-!
DEFINITION. The PPU mode machine (spec/60_exceptions.md R330 to R337). All its accesses are direct to `Mem` (R90).
-/

namespace Sys2Proof.Machine

/-- R42: the two mode bits of `STAT` are replaced, the other six kept. -/
def State.setMode (s : State) (mode : BitVec 2) : State := s.setDirect STAT ((s.direct STAT &&& 0xFC#8) ||| mode.setWidth 8)

/-- R332: the mode that `LY` and `budget` give. -/
def State.ppuMode (s : State) : BitVec 2 :=
  if (s.direct LY).toNat ≥ VBLANK_LINE then 1
  else if s.budget > Config.LINE_CYCLES - Config.OAM_CYCLES then 2
  else if s.budget > Config.LINE_CYCLES - Config.OAM_CYCLES - Config.XFER_CYCLES then 3
  else 0

/-- R333: the enable bit of a mode's entry interrupt; mode 3 has none. -/
def State.modeEnable (s : State) (mode : BitVec 2) : Bool :=
  match mode with
  | 0#2 => (s.direct STAT).getLsbD 3
  | 1#2 => (s.direct STAT).getLsbD 4
  | 2#2 => (s.direct STAT).getLsbD 5
  | _ => false

/-- R331, step 1 with the display disabled. -/
def State.ppuOff (s : State) : State := (s.setDirect LY 0x00).setMode PPU_OFF_MODE

/-- R332, R333, step 2. -/
def State.ppuEnterMode (s : State) : State :=
  let mode := s.ppuMode
  let edge := decide (mode ≠ (s.direct STAT).extractLsb' 0 2)
  (if edge && s.modeEnable mode then s.setPending 1 else s).setMode mode

/-- R334: the line after `ly` begins. -/
def State.nextLine (shades : Shades) (s : State) (ly : Nat) : State :=
  let s1 := if ly + 1 = VBLANK_LINE then s.setPending 0 else s
  if ly + 1 > MAX_LINE then s1.setDirect LY 0x00
  else
    let s2 := s1.setDirect LY (BitVec.ofNat 8 (ly + 1))
    if ly < Config.FB_H then s2.renderLine shades ly else s2

/-- R334, step 3. -/
def State.ppuLine (shades : Shades) (s : State) (n : Nat) : State :=
  if n > s.budget then State.nextLine shades { s with budget := Config.LINE_CYCLES } (s.direct LY).toNat
  else { s with budget := s.budget - n }

/-- R335, step 4. -/
def State.ppuCoincidence (s : State) : State :=
  if s.direct LY = s.direct LYC then
    let s1 := s.setDirect STAT (s.direct STAT ||| 0x04#8)
    if (s1.direct STAT).getLsbD 6 then s1.setPending 1 else s1
  else s.setDirect STAT (s.direct STAT &&& 0xFB#8)

/-- R330 `PpuAdvance(n)`. -/
def State.ppuAdvance (shades : Shades) (s : State) (n : Nat) : State :=
  if (s.direct LCDC).getLsbD 7 then (State.ppuLine shades s.ppuEnterMode n).ppuCoincidence else s.ppuOff

end Sys2Proof.Machine
end

