-- ==== Sys2Proof/Machine/Timer.lean ====
section
/-!
DEFINITION. The free-running divider (spec/60_exceptions.md R320). `TIMA`, `TMA` and `TAC` are storage and nothing advances
them (R321).
-/

namespace Sys2Proof.Machine

/-- R320 `TimerAdvance(n)`: a direct store, which does not reset the divider. -/
def State.timerAdvance (s : State) (n : Nat) : State :=
  s.setDirect DIV (BitVec.ofNat 8 ((s.direct DIV).toNat + n))

end Sys2Proof.Machine
end

