-- ==== Sys2Proof/Machine/Cpu.lean ====
section
/-!
DEFINITION. The CPU step (spec/30_encoding.md R100, spec/46_system.md R276), the system step (spec/60_exceptions.md R300), and
the placing of an instruction where the next step fetches it.
-/

namespace Sys2Proof.Machine

/-- R100 to R103: the instruction at `PC` and its length, from the bytes the bus reads there. -/
def State.fetched (s : State) : Instr × Nat := decodeBytes (s.read8 s.pc) (s.read8 (s.pc + 1)) (s.read8 (s.pc + 2))

/-- R25, R102: `PC` past every byte of the fetched instruction. -/
def State.pastInstruction (s : State) : State := s.setPc (s.pc + BitVec.ofNat 16 s.fetched.2)

/-- R100: one instruction is fetched, decoded and executed. A fault leaves the state after the fetch (R304). -/
def State.runInstruction (s : State) : Stage :=
  let s1 := s.pastInstruction
  match exec s.fetched.1 s1 with
  | .next t => .ok t
  | .fault f => raise s1 f
  | .refused r => .declined r

/-- R276, D17: a step that executes nothing. -/
def State.suspend (s : State) : State := s.setCycles SUSPEND_CYCLES

/-- R100 `step()` with the test of R276 before the fetch. -/
def State.cpuStep (s : State) : Stage :=
  s.unlessFaulted fun s =>
    if s.stopped then .ok s.suspend
    else if s.halted then
      if s.pendingEnabled ≠ 0x00 then State.runInstruction { s with halted := false } else .ok s.suspend
    else s.runInstruction

/-- R300: the PPU's advance, then the timer's, by the cycles the CPU step returned. -/
def State.advanceDevices (s : State) : State := (s.ppuAdvance Config.SHADE s.cycles).timerAdvance s.cycles

/-- R300 `SystemStep()`. -/
def State.systemStep (s : State) : Stage :=
  match s.cpuStep with
  | .ok t => t.advanceDevices.deliverIfPending
  | .raised f t => .raised f t
  | .declined r => .declined r

/-- R303: the state a system step leaves, whatever its outcome. -/
def State.afterStep (s : State) : State := s.systemStep.stateOr s

/-- A byte put where the bus reads `addr`, without any side effect; nothing happens in the unusable range. -/
def State.place (s : State) (addr : Word) (v : Byte) : State :=
  let a := addr.toNat
  match regionOf s.boot a with
  | .bios => { s with bios := s.bios.write a v }
  | .rom => { s with rom := s.rom.write a v }
  | .mirror => s.setDirect (a - 0x2000) v
  | .unusable => s
  | .videoRam | .externalRam | .workingRam | .objectMemory | .io | .highRam | .interruptEnable => s.setDirect a v

/-- The address the loader uses: `PC`, or working RAM where one of the three bytes at `PC` would fall in the unusable range. -/
def loadAddress (pc : Word) : Word := if 0xFE9E ≤ pc.toNat ∧ pc.toNat < 0xFF00 then 0xC000 else pc

/-- The bytes of an instruction put where the next step fetches, and the machine made to run: not faulted, stopped or halted. -/
def State.placeInstruction (s : State) (b0 b1 b2 : Byte) : State :=
  let p := loadAddress s.pc
  let s1 := { s with pc := p, halted := false, stopped := false, faulted := none }
  ((s1.place p b0).place (p + 1) b1).place (p + 2) b2

end Sys2Proof.Machine
end

