-- ==== Sys2Proof/Machine/Step.lean ====
section
/-!
DEFINITION. One step of the machine is one system step (spec/60_exceptions.md R300), and the placing of an instruction where
the next step fetches it (assumption log 3).
-/

namespace Sys2Proof.Machine

/-- R300, R303: the outcome of one system step. -/
def step (s : State) : Host.Outcome State Fault Refusal := s.systemStep.outcome

/-- `s` with the instruction of an opcode table word where the next step fetches it. -/
def State.withFetchWord (s : State) (nbits w : Nat) : State :=
  s.placeInstruction (tableByte nbits w 0) (tableByte nbits w 1) (tableByte nbits w 2)

end Sys2Proof.Machine
end

