-- ==== Sys2Proof/Machine/HostActions.lean ====
section
/-!
DEFINITION. What the host may do between system steps (spec/70_reset_and_hazards.md R380, R396). No step calls these.
-/

namespace Sys2Proof.Machine

/-- R380 `Reset(BIOS, ROM)`. -/
def construct (bios rom : Memory) : State := { State.reset with bios := bios, rom := rom }

/-- R396 `HostSetJoyp(v)`: nothing but the byte at 0xFF00.

DESIGN CHOICE (log 31), unsafe: it stores on a faulted machine too, since R303 does not list it among the operations that a
latched fault stops, while D20 and U22 speak of every later operation. -/
def State.hostSetJoyp (s : State) (v : Byte) : State := s.setDirect JOYP v

/-- R396, R305 `Request(b)`. R303 lists it: a faulted machine answers with its fault and does not change. -/
def State.hostRequest (s : State) (b : Nat) : Stage := s.request b

/-- R396 `HostWake()`: nothing but `stopped`.

DESIGN CHOICE (log 31), unsafe: it clears `stopped` on a faulted machine too, as `State.hostSetJoyp` stores on one. -/
def State.hostWake (s : State) : State := { s with stopped := false }

end Sys2Proof.Machine
end

