-- ==== Sys2Proof/WellFormed.lean ====
section
/-!
DEFINITION. Which terms of `Instr` are instructions. Every operand field admits every value, so one check is left:
opcode 0xCB "is not an instruction of its own" (spec/44_rotate_shift_bit.md R224), and its row of the table is refused.
-/

namespace Sys2Proof

/-- R224: `i` is not the row of the byte 0xCB. -/
def Instr.notPrefix (i : Instr) : Bool :=
  match i with
  | .prefix_CB _ => false
  | _ => true

/-- `i` is an instruction that the decoder can give (R113). -/
def Instr.wellFormed (i : Instr) : Bool := i.notPrefix

end Sys2Proof
end

