-- ==== Sys2Proof/Safety.lean ====
section
/-!
DEFINITION. The terms the claims are stated in: the run states (spec/60_exceptions.md R350), what a bus write can reach
(spec/20_memory.md R66 to R73), the numbers of the operand fields (spec/30_encoding.md R105 to R111), the illegal
instructions (R112), and the invariant that every step keeps.
-/

namespace Sys2Proof

/-! ### The operand fields as numbers -/

/-- R106, without the memory operand. -/
def Reg8.field (r : Reg8) : Byte :=
  match r with
  | .b => 0
  | .c => 1
  | .d => 2
  | .e => 3
  | .h => 4
  | .l => 5
  | .a => 7

/-- R106. -/
def Operand8.field (x : Operand8) : Byte :=
  match x with
  | .reg r => r.field
  | .memHL => 6

/-- R107. -/
def Pair.field (p : Pair) : Byte :=
  match p with
  | .bc => 0
  | .de => 1
  | .hl => 2
  | .sp => 3

/-- R108. -/
def StackPair.field (q : StackPair) : Byte :=
  match q with
  | .bc => 0
  | .de => 1
  | .hl => 2
  | .af => 3

/-- R109. -/
def Cond.field (cc : Cond) : Byte :=
  match cc with
  | .nz => 0
  | .z => 1
  | .nc => 2
  | .c => 3

/-- R105 `alu[y]`. -/
def Alu.field (o : Alu) : Byte :=
  match o with
  | .add => 0
  | .adc => 1
  | .sub => 2
  | .sbc => 3
  | .and => 4
  | .xor => 5
  | .or => 6
  | .cp => 7

/-- R111 `rot[y]`. -/
def Rot.field (o : Rot) : Byte :=
  match o with
  | .rlc => 0
  | .rrc => 1
  | .rl => 2
  | .rr => 3
  | .sla => 4
  | .sra => 5
  | .swap => 6
  | .srl => 7

/-- R198, R225, R234: the cycles of an instruction with an 8-bit operand, by whether the operand is the byte at `HL`. -/
def Operand8.cost (x : Operand8) (register memory : Nat) : Nat :=
  match x with
  | .reg _ => register
  | .memHL => memory

/-- R220 to R232 over the integers: the value a rotate or shift gives, and whether the bit it moves out is 1. `v` is the operand,
`cin` the old fC. -/
def Rot.value (o : Rot) (v : Nat) (cin : Bool) : Nat × Bool :=
  match o with
  | .rlc => ((2 * v + v / 128) % 256, decide (128 ≤ v))
  | .rrc => (v / 2 + 128 * (v % 2), decide (v % 2 = 1))
  | .rl => ((2 * v + cin.toNat) % 256, decide (128 ≤ v))
  | .rr => (v / 2 + 128 * cin.toNat, decide (v % 2 = 1))
  | .sla => (2 * v % 256, decide (128 ≤ v))
  | .sra => (v / 2 + 128 * (v / 128), decide (v % 2 = 1))
  | .swap => (16 * (v % 16) + v / 16, false)
  | .srl => (v / 2, decide (v % 2 = 1))

/-- R112: the opcode of an illegal instruction. -/
def Instr.illegalOpcode (i : Instr) : Option Byte :=
  match i with
  | .illegal_D3 => some 0xD3
  | .illegal_DB => some 0xDB
  | .illegal_DD => some 0xDD
  | .illegal_E3 => some 0xE3
  | .illegal_E4 => some 0xE4
  | .illegal_EB => some 0xEB
  | .illegal_EC => some 0xEC
  | .illegal_ED => some 0xED
  | .illegal_F4 => some 0xF4
  | .illegal_FC => some 0xFC
  | .illegal_FD => some 0xFD
  | _ => none

namespace Machine

/-! ### Run states -/

/-- R350. -/
inductive RunState where
  | faulted
  | stopped
  | halted
  | running
  deriving DecidableEq, Repr

/-- R350: the three booleans, tested in the rule's order. -/
def State.runState (s : State) : RunState :=
  if s.faulted.isSome then .faulted
  else if s.stopped then .stopped
  else if s.halted then .halted
  else .running

/-! ### What a bus write reaches -/

/-- R61, R65, R69: the index of the byte of `Mem` that a bus address of 0x8000 and above names. -/
def canonical (a : Word) : Nat :=
  if 0xE000 ≤ a.toNat ∧ a.toNat < 0xFE00 then a.toNat - 0x2000 else a.toNat

/-- R68, R69: a bus write to `a` stores the byte, and does nothing else. -/
def storing (a : Word) : Bool :=
  decide ((0x8000 ≤ a.toNat ∧ a.toNat < 0xFEA0) ∨ 0xFF00 ≤ a.toNat) && a != 0xFF04 && a != 0xFF46 && a != 0xFF50

/-- R66 to R73: the bus addresses at which a read may give another byte after a one-byte bus write to `addr`. A write to
0xFF46 reaches object attribute memory, one to 0xFF50 reaches the range that `BIOS` overlays. -/
def reached (addr a : Word) : Bool :=
  if storing addr then decide (canonical a = canonical addr)
  else if addr = 0xFF04 then a == 0xFF04
  else if addr = 0xFF46 then decide (0xFE00 ≤ a.toNat ∧ a.toNat < 0xFEA0)
  else if addr = 0xFF50 then decide (a.toNat < 0x0100)
  else false

/-- R75: the same for a two-byte bus write. -/
def reached16 (addr a : Word) : Bool := reached addr a || reached (addr + 1) a

/-- Every byte of memory reads in `t` as it reads in `s`, but for those a one-byte bus write to `addr` reaches. -/
def State.SameOutside (s t : State) (addr : Word) : Prop := ∀ a : Word, reached addr a = false → t.read8 a = s.read8 a

/-- The same for a two-byte bus write. -/
def State.SameOutside16 (s t : State) (addr : Word) : Prop := ∀ a : Word, reached16 addr a = false → t.read8 a = s.read8 a

/-- Every byte of memory reads as it reads in `s`. -/
def State.SameMemory (s t : State) : Prop := ∀ a : Word, t.read8 a = s.read8 a

/-- The frame of a write to an 8-bit operand: memory is as before, but for the byte at `HL` where the operand is that byte. -/
def State.SameButOperand (s t : State) (x : Operand8) : Prop :=
  match x with
  | .reg _ => s.SameMemory t
  | .memHL => s.SameOutside t s.hl

/-- `t` is `s` but for the memory image, `boot`, `SP`, `PC` and the cycle count: what a push may change (R76, R71, R72). -/
def State.OnlyStack (s t : State) : Prop :=
  t = { s with mem := t.mem, boot := t.boot, sp := t.sp, pc := t.pc, cycles := t.cycles }

/-! ### The invariant -/

/-- R34, R49, R50: the bytes of `Mem` that no rule writes. -/
def neverWritten (a : Nat) : Bool :=
  decide (a < 0x8000) || decide (0xE000 ≤ a ∧ a < 0xFE00) || decide (0xFEA0 ≤ a ∧ a < 0xFF00) || decide (a = DMA)
    || decide (a = BOOTOFF)

/-- What holds of every state that a step leaves when it holds of the state before. -/
structure State.Inv (s : State) : Prop where
  /-- R34: `Mem` has 65536 bytes, in canonical form. -/
  mem : Memory.wf 65536 s.mem = true
  /-- R34, R49, R50: 0xFF46, 0xFF50 and the parts of `Mem` outside the writable regions hold their reset contents. -/
  unwritten : s.mem.all (fun c => !neverWritten c.1) = true
  /-- R35. -/
  bios : Memory.wf 256 s.bios = true
  /-- R35. -/
  rom : Memory.wf 32768 s.rom = true
  /-- R53: `budget` is an integer in 0..456. -/
  budget : s.budget ≤ 456
  /-- R52: 144 rows of 160 pixels of four bytes. -/
  fb : s.fb.wf = true
  /-- R304: no addressing fault has been raised. -/
  fault : ∀ a, s.faulted ≠ some (.addressingFault a)

end Machine

end Sys2Proof
end

