-- ==== Sys2Proof/Certificates/Slice0/Obligations.lean ====
section
/-!
DEFINITION. The statements for the provers. Instruction statements are about `exec i s`, where `s` is the state after the fetch:
its `PC` is past every byte of `i` (spec/30_encoding.md R100, R110). The opcode values they give are the spec's general
knowledge K1 and its decision D37, the cycle counts K2 and D24 (assumption log 5).
-/

open Sys2Proof Sys2Proof.Machine

/-! ### Encoding -/

/-- Decode and encode agree: whatever follows an instruction's bytes, the decoder gives the instruction back and leaves what
follows (R101, R104 to R111, R114; decision D37). -/
def Obligations.DecodeOfEncode : Prop :=
  ∀ (i : Instr) (rest : List Byte), i.wellFormed = true → decode (encode i ++ rest) = .ok (i, rest)

/-- The other direction: what the decoder reads is a well-formed instruction, and its bytes are the bytes that were read (R113,
D37). So no two byte sequences are one instruction, and none is read as a neighbour. -/
def Obligations.EncodeOfDecode : Prop :=
  ∀ (bytes : List Byte) (i : Instr) (rest : List Byte),
    decode bytes = .ok (i, rest) → i.wellFormed = true ∧ encode i ++ rest = bytes

/-- R101: one, two or three bytes, known from the first byte alone; the prefix is followed by exactly one byte. -/
def Obligations.LengthFromFirstByte : Prop :=
  ∀ b0 b1 b2 c1 c2 : Byte,
    (decodeBytes b0 b1 b2).2 = (decodeBytes b0 c1 c2).2
      ∧ 1 ≤ (decodeBytes b0 b1 b2).2 ∧ (decodeBytes b0 b1 b2).2 ≤ 3
      ∧ (decodeBytes 0xCB b1 b2).2 = 2

/-- Bytes are rejected only where they end too early, and then by name: never because a byte has no meaning (R113, D37). -/
def Obligations.DecodeRejectsOnlyShortInput : Prop :=
  ∀ (bytes : List Byte) (e : DecodeError), decode bytes = .error e →
    (bytes = [] ∧ e = .noBytes)
      ∨ ∃ b0 tail, bytes = b0 :: tail ∧ e = .truncated b0 ∧ tail.length + 1 < (decodeBytes b0 0x00 0x00).2

/-- R112, R113: the illegal opcodes are eleven values of the first byte and no others; no byte after the prefix is illegal (the list
is D37's). -/
def Obligations.IllegalOpcodesAreEleven : Prop :=
  ∀ b0 b1 b2 : Byte,
    (decodeBytes b0 b1 b2).1.illegalOpcode
      = if b0 ∈ ([0xD3, 0xDB, 0xDD, 0xE3, 0xE4, 0xEB, 0xEC, 0xED, 0xF4, 0xFC, 0xFD] : List Byte) then some b0 else none

/-- Words written out from R104, R105, R110, R111: one of each family (D37). -/
def Obligations.DecodeWordsByHand : Prop :=
  decodeBytes 0b01000001 0x00 0x00 = (.ld_B_C, 1)
    ∧ decodeBytes 0b00100001 0x34 0x12 = (.ld_HL_d16 0x1234, 3)
    ∧ decodeBytes 0b11110101 0x00 0x00 = (.push_AF, 1)
    ∧ decodeBytes 0b10001011 0x00 0x00 = (.adc_A_E, 1)
    ∧ decodeBytes 0b00111001 0x00 0x00 = (.add_HL_SP, 1)
    ∧ decodeBytes 0b11001011 0b00110111 0x00 = (.swap_A, 2)
    ∧ decodeBytes 0b11001011 0b01111100 0x00 = (.bit_7_H, 2)
    ∧ decodeBytes 0b11001011 0b11001011 0x00 = (.set_1_E, 2)
    ∧ decodeBytes 0b00111000 0xFD 0x00 = (.jr_C_e8 0xFD, 2)
    ∧ decodeBytes 0b00010000 0xA5 0x00 = (.stop 0xA5, 2)
    ∧ decodeBytes 0b11010011 0x00 0x00 = (.illegal_D3, 1)

/-! ### The step -/

/-- R100, R300: a machine that runs executes the instruction its bytes at `PC` decode to, at the state whose `PC` is past it;
then the PPU and the timer advance by the cycles returned, and the delivery check ends the step (the order of the two advances
is D23). A fault ends the step at once, and leaves the state after the fetch, latched (R303, D20). -/
def Obligations.StepRunsTheDecodedInstruction : Prop :=
  ∀ (s : State) (i : Instr) (rest : List Byte),
    s.runState = .running
    → decode [s.read8 s.pc, s.read8 (s.pc + 1), s.read8 (s.pc + 2)] = .ok (i, rest)
    → let s1 : State := { s with pc := s.pc + BitVec.ofNat 16 (3 - rest.length) }
      (∀ t, exec i s1 = .next t →
        step s = ((t.ppuAdvance Config.SHADE t.cycles).timerAdvance t.cycles).deliverIfPending.outcome)
      ∧ (∀ f, exec i s1 = .fault f → step s = .fault f ∧ s.afterStep = { s1 with faulted := some f })
      ∧ ∀ r, exec i s1 = .refused r → step s = .refused r

/-- R276 (D17, D18): `stopped` is looked at first; a suspended step fetches nothing and costs 4 cycles; a halted machine with a bit
common to `IF` and `IE` wakes, whatever `ime` is, and runs an instruction in the same step. -/
def Obligations.SuspendedStep : Prop :=
  ∀ s : State,
    let idle : Host.Outcome State Fault Refusal :=
      ((({ s with cycles := 4 } : State).ppuAdvance Config.SHADE 4).timerAdvance 4).deliverIfPending.outcome
    (s.runState = .stopped → step s = idle)
    ∧ (s.runState = .halted → s.mem.read 0xFF0F &&& s.mem.read 0xFFFF = 0x00 → step s = idle)
    ∧ (s.runState = .halted → s.mem.read 0xFF0F &&& s.mem.read 0xFFFF ≠ 0x00 → step s = step { s with halted := false })

/-- R11, R303: a step gives the next state, or a fault after which the machine is in the terminal faulted state; there is no
third outcome, so no instruction is refused. -/
def Obligations.StepGivesNextOrLatchedFault : Prop :=
  ∀ s : State, (∃ t, step s = .next t) ∨ ∃ f, step s = .fault f ∧ s.afterStep.faulted = some f

/-- R303 (D20): once latched, a fault is what each of the four operations that R303 lists returns, and it changes nothing. The
host's own actions are not among them (log 31). -/
def Obligations.FaultIsFinal : Prop :=
  ∀ (s : State) (f : Fault), s.faulted = some f →
    step s = .fault f ∧ s.afterStep = s ∧ s.cpuStep = .raised f s
      ∧ (∀ b, s.request b = .raised f s) ∧ s.deliverIfPending = .raised f s

/-- R275, R304, R309 (D20, D21, the list D37): the only faults a step of a machine that is not faulted can raise are the decode
fault of the illegal opcode at `PC`, with the payload of R275 (`PC` in the snapshot is past the opcode), and the consistency
fault of a bit of 4 to 7. -/
def Obligations.FaultsOfAStep : Prop :=
  ∀ (s : State) (f : Fault), s.faulted = none → step s = .fault f →
    (s.read8 s.pc ∈ ([0xD3, 0xDB, 0xDD, 0xE3, 0xE4, 0xEB, 0xEC, 0xED, 0xF4, 0xFC, 0xFD] : List Byte)
      ∧ f = .decodeFault (s.read8 s.pc) s.pc (s.read8 (s.pc - 2), s.read8 (s.pc - 1)) (s.read8 (s.pc + 1), s.read8 (s.pc + 2))
          { s.snapshot with pc := s.pc + 1 })
    ∨ ∃ b regs, 4 ≤ b ∧ b < 8 ∧ f = .internalConsistencyFault b regs

/-- R35, R67, R71: no step changes `BIOS` or `ROM`, and none sets `boot` again. -/
def Obligations.ImagesAreImmutable : Prop :=
  ∀ s t : State, step s = .next t → t.bios = s.bios ∧ t.rom = s.rom ∧ (t.boot = true → s.boot = true)

/-- R397: the count a step returns is a multiple of 4 between 4 and 24 (the counts are K2, D24; a suspended step's is D17). -/
def Obligations.StepCountsAreMachineCycles : Prop :=
  ∀ s t : State, step s = .next t → 4 ∣ t.cycles ∧ 4 ≤ t.cycles ∧ t.cycles ≤ 24

/-- The invariant holds after reset (R55; its zeros are D1 to D4). -/
def Obligations.InvariantAtReset : Prop := State.reset.Inv

/-- Every step from a state with the invariant leaves a state with it, whatever its outcome: `Mem` stays in canonical form and
its unreachable bytes 0x00 (R34, R49, R50), `budget` stays in 0..456 (R53), `FB` keeps its shape (R52), and no addressing
fault is raised (R82). -/
def Obligations.InvariantKeptByEveryStep : Prop :=
  ∀ s : State, s.Inv → s.afterStep.Inv ∧ ∀ t, step s = .next t → t.Inv

/-! ### Registers -/

/-- R20: seven independent registers, none hard-wired. -/
def Obligations.RegistersAreIndependent : Prop :=
  ∀ (s : State) (r q : Reg8) (v : Byte),
    (s.setReg r v).reg q = (if q = r then v else s.reg q)
      ∧ { s.setReg r v with a := s.a, b := s.b, c := s.c, d := s.d, e := s.e, h := s.h, l := s.l } = s

/-- R22, R23: a pair is its two registers, the first in the upper byte; writing one writes both; a write of `AF` takes the flags
from bits 7 to 4 and discards bits 3 to 0; the low nibble of `AF` is always zero. -/
def Obligations.PairsAreViews : Prop :=
  ∀ (s : State) (w : Word),
    s.bc.toNat = 256 * s.b.toNat + s.c.toNat ∧ s.de.toNat = 256 * s.d.toNat + s.e.toNat
    ∧ s.hl.toNat = 256 * s.h.toNat + s.l.toNat
    ∧ s.af.toNat = 256 * s.a.toNat + 128 * s.fZ.toNat + 64 * s.fN.toNat + 32 * s.fH.toNat + 16 * s.fC.toNat
    ∧ s.af.toNat % 16 = 0
    ∧ s.setPair .bc w = { s with b := BitVec.ofNat 8 (w.toNat / 256), c := BitVec.ofNat 8 w.toNat }
    ∧ s.setPair .de w = { s with d := BitVec.ofNat 8 (w.toNat / 256), e := BitVec.ofNat 8 w.toNat }
    ∧ s.setPair .hl w = { s with h := BitVec.ofNat 8 (w.toNat / 256), l := BitVec.ofNat 8 w.toNat }
    ∧ s.setStackPair .af w
        = { s with a := BitVec.ofNat 8 (w.toNat / 256), fZ := w.getLsbD 7, fN := w.getLsbD 6, fH := w.getLsbD 5, fC := w.getLsbD 4 }

/-! ### The bus -/

/-- R61, R63, R64, R65: what a bus read returns below 0x8000, in the mirror and in the unusable range; everywhere else it is the
byte of `Mem`. That this holds of every I/O register, each read back whole, is the model's choice (the spec's own decision D9,
log 15). -/
def Obligations.BusReads : Prop :=
  ∀ (s : State) (a : Word),
    (a.toNat < 0x8000 → s.read8 a = if a.toNat ≤ 0x00FF ∧ s.boot = true then s.bios.read a.toNat else s.rom.read a.toNat)
    ∧ (0xE000 ≤ a.toNat → a.toNat ≤ 0xFDFF → s.read8 a = s.mem.read (a.toNat - 0x2000) ∧ s.read8 a = s.read8 (a - 0x2000))
    ∧ (0xFEA0 ≤ a.toNat → a.toNat ≤ 0xFEFF → s.read8 a = 0x00)
    ∧ ((0x8000 ≤ a.toNat ∧ a.toNat ≤ 0xDFFF) ∨ (0xFE00 ≤ a.toNat ∧ a.toNat ≤ 0xFE9F) ∨ 0xFF00 ≤ a.toNat →
        s.read8 a = s.mem.read a.toNat)

/-- R67, R69, R70: a write below 0x8000 or to 0xFEA0..0xFEFF changes no state, whatever `boot` is; a write to the mirror is the
write to the address 0x2000 lower; the last 512 bytes of working RAM have no mirror. -/
def Obligations.BusWritesIgnoredOrMirrored : Prop :=
  ∀ (s : State) (a : Word) (v : Byte),
    (a.toNat < 0x8000 → s.write8 a v = s)
    ∧ (0xFEA0 ≤ a.toNat → a.toNat ≤ 0xFEFF → s.write8 a v = s)
    ∧ (0xE000 ≤ a.toNat → a.toNat ≤ 0xFDFF →
        s.write8 a v = s.write8 (a - 0x2000) v ∧ (s.write8 a v).read8 (a - 0x2000) = v ∧ (s.write8 a v).read8 a = v)
    ∧ (0xDE00 ≤ a.toNat → a.toNat ≤ 0xDFFF →
        ∀ k : Word, 0xE000 ≤ k.toNat → k.toNat ≤ 0xFDFF → (s.write8 a v).read8 k = s.read8 k)

/-- R68 (D9, D39: no bit is masked and no PPU mode restricts a write): a write to every other address but three stores the
whole byte, and nothing else changes. -/
def Obligations.BusWritesThatStore : Prop :=
  ∀ (s : State) (a : Word) (v : Byte),
    (0x8000 ≤ a.toNat ∧ a.toNat ≤ 0xDFFF) ∨ (0xFE00 ≤ a.toNat ∧ a.toNat ≤ 0xFE9F)
      ∨ (0xFF00 ≤ a.toNat ∧ a ≠ 0xFF04 ∧ a ≠ 0xFF46 ∧ a ≠ 0xFF50) →
    ∃ m, s.write8 a v = { s with mem := m } ∧ m.read a.toNat = v ∧ ∀ k, k ≠ a.toNat → m.read k = s.mem.read k

/-- R71: a write of any value to 0xFF50 clears `boot` and stores nothing; repeating it changes nothing; the next bus read of
0x0000..0x00FF, a fetch included, is of `ROM`; no step sets `boot` again. -/
def Obligations.BootModeDisable : Prop :=
  ∀ (s : State) (v w : Byte),
    s.write8 0xFF50 v = { s with boot := false } ∧ (s.write8 0xFF50 v).write8 0xFF50 w = s.write8 0xFF50 v
      ∧ (∀ a : Word, a.toNat ≤ 0x00FF → (s.write8 0xFF50 v).read8 a = s.rom.read a.toNat)
      ∧ (s.boot = false → s.afterStep.boot = false)

/-- R73: a write of any value to 0xFF04 makes the divider 0x00, and changes nothing else. -/
def Obligations.DividerReset : Prop :=
  ∀ (s : State) (v : Byte),
    ∃ m, s.write8 0xFF04 v = { s with mem := m } ∧ m.read 0xFF04 = 0x00 ∧ ∀ k, k ≠ 0xFF04 → m.read k = s.mem.read k

/-- R72 (D8: the source through the bus, the destination direct): the copy puts the 160 bytes that the bus reads from page `v`
before the write into object attribute memory; nothing else changes, 0xFF46 included. -/
def Obligations.DmaCopy : Prop :=
  ∀ (s : State) (v : Byte),
    ∃ m, s.write8 0xFF46 v = { s with mem := m }
      ∧ (∀ i, i < 160 → m.read (0xFE00 + i) = s.read8 (BitVec.ofNat 16 (256 * v.toNat + i)))
      ∧ ∀ k, (k < 0xFE00 ∨ 0xFE9F < k) → m.read k = s.mem.read k

/-- R74, R75, R78 with 90_conflicts.md C17 (D6, D7: the address wraps, the low byte first): where both bytes are stored, the low byte
lies at `addr` and the high byte at `addr + 1`, and a 16-bit read gives the word back. -/
def Obligations.WordRoundTrip : Prop :=
  ∀ (s : State) (addr w : Word), storing addr = true → storing (addr + 1) = true →
    (s.write16 addr w).read8 addr = BitVec.ofNat 8 w.toNat
      ∧ (s.write16 addr w).read8 (addr + 1) = BitVec.ofNat 8 (w.toNat / 256)
      ∧ (s.write16 addr w).read16 addr = w ∧ s.SameOutside16 (s.write16 addr w) addr

/-- R74, R76, R77: a push decrements `SP` by 2, then stores the word at the new `SP`; a pop reads the word at `SP`, then increments
`SP` by 2; where the two bytes are stored, the low byte is at the new `SP` and the high byte after it, and a pop after the push
gives the word and the old `SP`. That `SP` and the high byte's address wrap modulo 2^16 is the model's choice (the spec's own
decision D6, log 12), and so is that `SP` moves by 2 once before the 16-bit write (D7, log 13). -/
def Obligations.PushThenPop : Prop :=
  ∀ (s : State) (w : Word),
    s.push16 w = ({ s with sp := s.sp - 2 } : State).write16 (s.sp - 2) w
    ∧ s.top16.toNat = 256 * (s.read8 (s.sp + 1)).toNat + (s.read8 s.sp).toNat ∧ s.dropTop = { s with sp := s.sp + 2 }
    ∧ (storing (s.sp - 2) = true → storing (s.sp - 1) = true →
        (s.push16 w).read8 (s.push16 w).sp = BitVec.ofNat 8 w.toNat
          ∧ (s.push16 w).read8 ((s.push16 w).sp + 1) = BitVec.ofNat 8 (w.toNat / 256)
          ∧ (s.push16 w).top16 = w ∧ (s.push16 w).dropTop.sp = s.sp)

/-! ### Loads -/

/-- R130, R133: the register loads, every register with every register. -/
def Obligations.LoadRegister : Prop :=
  ∀ (dst src : Reg8) (n : Byte) (s : State),
    encode (Form.ldRegReg dst src) = [0x40 + 8 * dst.field + src.field]
    ∧ exec (Form.ldRegReg dst src) s = .next { s.setReg dst (s.reg src) with cycles := 4 }
    ∧ encode (Form.ldRegImm dst n) = [0x06 + 8 * dst.field, n]
    ∧ exec (Form.ldRegImm dst n) s = .next { s.setReg dst n with cycles := 8 }

/-- R131, R135, R136, R139, R141, R143 (D38: one byte): the loads of a register from memory. `HL` is read before the register is
written. -/
def Obligations.LoadFromMemory : Prop :=
  ∀ (i : Instr) (dst : Reg8) (addr : Word) (bytes : List Byte) (count : Nat) (s : State),
    (i = Form.ldRegMem dst ∧ addr = s.hl ∧ bytes = [0x46 + 8 * dst.field] ∧ count = 8)
    ∨ (i = .ld_A_mBC ∧ dst = .a ∧ addr = s.bc ∧ bytes = [0x0A] ∧ count = 8)
    ∨ (i = .ld_A_mDE ∧ dst = .a ∧ addr = s.de ∧ bytes = [0x1A] ∧ count = 8)
    ∨ (i = .ld_A_ma16 addr ∧ dst = .a ∧ bytes = [0xFA, BitVec.ofNat 8 addr.toNat, BitVec.ofNat 8 (addr.toNat / 256)] ∧ count = 16)
    ∨ (∃ n : Byte, i = .ldh_A_ma8 n ∧ dst = .a ∧ addr = 0xFF00 + n.setWidth 16 ∧ bytes = [0xF0, n] ∧ count = 12)
    ∨ (i = .ld_A_mC ∧ dst = .a ∧ addr = 0xFF00 + s.c.setWidth 16 ∧ bytes = [0xF2] ∧ count = 8) →
    encode i = bytes ∧ exec i s = .next { s.setReg dst (s.read8 addr) with cycles := count }

/-- R132, R134, R137, R138, R140, R142, R144 (D38): the stores of one byte, at the address each computes. The registers and flags are
as before; no byte reads differently but those the store reaches. -/
def Obligations.StoreByte : Prop :=
  ∀ (i : Instr) (addr : Word) (v : Byte) (bytes : List Byte) (count : Nat) (s : State),
    (∃ src, i = Form.ldMemReg src ∧ addr = s.hl ∧ v = s.reg src ∧ bytes = [0x70 + src.field] ∧ count = 8)
    ∨ (i = .ld_mHL_d8 v ∧ addr = s.hl ∧ bytes = [0x36, v] ∧ count = 12)
    ∨ (i = .ld_mBC_A ∧ addr = s.bc ∧ v = s.a ∧ bytes = [0x02] ∧ count = 8)
    ∨ (i = .ld_mDE_A ∧ addr = s.de ∧ v = s.a ∧ bytes = [0x12] ∧ count = 8)
    ∨ (i = .ld_ma16_A addr ∧ v = s.a ∧ bytes = [0xEA, BitVec.ofNat 8 addr.toNat, BitVec.ofNat 8 (addr.toNat / 256)] ∧ count = 16)
    ∨ (∃ n : Byte, i = .ldh_ma8_A n ∧ addr = 0xFF00 + n.setWidth 16 ∧ v = s.a ∧ bytes = [0xE0, n] ∧ count = 12)
    ∨ (i = .ld_mC_A ∧ addr = 0xFF00 + s.c.setWidth 16 ∧ v = s.a ∧ bytes = [0xE2] ∧ count = 8) →
    encode i = bytes
    ∧ ∃ t, exec i s = .next t ∧ t = { s.write8 addr v with cycles := count }
        ∧ t = { s with mem := t.mem, boot := t.boot, cycles := count } ∧ s.SameOutside t addr

/-- R145 to R148 (D6: `HL` wraps): the access is at the old `HL`, which then moves by one; no flag is written. -/
def Obligations.LoadStoreMovingHL : Prop :=
  ∀ (down : Bool) (s : State),
    let hl' : Word := if down then s.hl - 1 else s.hl + 1
    let store : Instr := if down then .ld_mHLdec_A else .ld_mHLinc_A
    let load : Instr := if down then .ld_A_mHLdec else .ld_A_mHLinc
    encode store = [if down then 0x32 else 0x22] ∧ encode load = [if down then 0x3A else 0x2A]
    ∧ (∃ t, exec store s = .next t
        ∧ t = { s.write8 s.hl s.a with
                h := BitVec.ofNat 8 (hl'.toNat / 256), l := BitVec.ofNat 8 hl'.toNat, cycles := 8 }
        ∧ t = { s with mem := t.mem, boot := t.boot, h := t.h, l := t.l, cycles := 8 } ∧ s.SameOutside t s.hl)
    ∧ exec load s = .next { s with
        a := s.read8 s.hl, h := BitVec.ofNat 8 (hl'.toNat / 256), l := BitVec.ofNat 8 hl'.toNat, cycles := 8 }

/-- R160, R161, R162: the 16-bit loads. `LD (a16),SP` stores the low byte at the address and the high byte after it. -/
def Obligations.LoadWord : Prop :=
  ∀ (p : Pair) (w : Word) (s : State),
    let low : Byte := BitVec.ofNat 8 w.toNat
    let high : Byte := BitVec.ofNat 8 (w.toNat / 256)
    encode (Form.ldPairImm p w) = [0x01 + 16 * p.field, low, high]
    ∧ exec (Form.ldPairImm p w) s = .next { s.setPair p w with cycles := 12 }
    ∧ encode .ld_SP_HL = [0xF9] ∧ exec .ld_SP_HL s = .next { s with sp := s.hl, cycles := 8 }
    ∧ encode (.ld_ma16_SP w) = [0x08, low, high]
    ∧ ∃ t, exec (.ld_ma16_SP w) s = .next t
        ∧ t = { (s.write8 w (BitVec.ofNat 8 s.sp.toNat)).write8 (w + 1) (BitVec.ofNat 8 (s.sp.toNat / 256)) with cycles := 20 }
        ∧ t = { s with mem := t.mem, boot := t.boot, cycles := 20 } ∧ s.SameOutside16 t w

/-- R164, R165 (D43), R166, R167 (D43): `PUSH` and `POP` of the four pairs; only `POP AF` writes flags.
The wrap of `SP` is D6 and the order of a push's accesses D7. -/
def Obligations.PushAndPop : Prop :=
  ∀ (q : StackPair) (s : State),
    encode (Form.push q) = [0xC5 + 16 * q.field] ∧ encode (Form.pop q) = [0xC1 + 16 * q.field]
    ∧ (∃ t, exec (Form.push q) s = .next t
        ∧ t = { ({ s with sp := s.sp - 2 } : State).write16 (s.sp - 2) (s.stackPair q) with cycles := 16 }
        ∧ t.sp = s.sp - 2 ∧ t.pc = s.pc ∧ s.OnlyStack t ∧ s.SameOutside16 t (s.sp - 2))
    ∧ exec (Form.pop q) s = .next { (s.setStackPair q (s.read16 s.sp)) with sp := s.sp + 2, cycles := 12 }

/-! ### Arithmetic and logic -/

/-- R180, R182 to R185 (D12: the carry in counts in fH and fC): `ADD` and `ADC`, over the integers. -/
def Obligations.AddToAccumulator : Prop :=
  ∀ (withCarry : Bool) (i : Instr) (v : Byte) (bytes : List Byte) (count : Nat) (s : State),
    let o : Alu := if withCarry then .adc else .add
    (∃ x, i = Form.aluOperand o x ∧ v = s.operand x ∧ bytes = [0x80 + 8 * o.field + x.field] ∧ count = x.cost 4 8)
      ∨ (i = Form.aluImm o v ∧ bytes = [0xC6 + 8 * o.field, v] ∧ count = 8) →
    let cin : Nat := (withCarry && s.fC).toNat
    let sum : Nat := s.a.toNat + v.toNat + cin
    encode i = bytes
    ∧ exec i s = .next { s with
        a := BitVec.ofNat 8 sum, fZ := decide (sum % 256 = 0), fN := false,
        fH := decide (s.a.toNat % 16 + v.toNat % 16 + cin > 15), fC := decide (sum > 255), cycles := count }

/-- R181, R186 to R189, R196, R197 (D12): `SUB`, `SBC` and `CP`, over the integers; `CP` keeps `A`. -/
def Obligations.SubtractFromAccumulator : Prop :=
  ∀ (o : Alu) (i : Instr) (v : Byte) (bytes : List Byte) (count : Nat) (s : State),
    o = .sub ∨ o = .sbc ∨ o = .cp →
    (∃ x, i = Form.aluOperand o x ∧ v = s.operand x ∧ bytes = [0x80 + 8 * o.field + x.field] ∧ count = x.cost 4 8)
      ∨ (i = Form.aluImm o v ∧ bytes = [0xC6 + 8 * o.field, v] ∧ count = 8) →
    let cin : Nat := (decide (o = .sbc) && s.fC).toNat
    let dif : Int := (s.a.toNat : Int) - v.toNat - cin
    encode i = bytes
    ∧ exec i s = .next { s with
        a := if o = .cp then s.a else BitVec.ofInt 8 dif, fZ := decide (dif % 256 = 0), fN := true,
        fH := decide (s.a.toNat % 16 < v.toNat % 16 + cin), fC := decide (dif < 0), cycles := count }

/-- R190 to R195: `AND`, `XOR` and `OR`, bit by bit; fH is set by `AND` alone. -/
def Obligations.LogicOnAccumulator : Prop :=
  ∀ (o : Alu) (i : Instr) (v : Byte) (bytes : List Byte) (count : Nat) (s : State),
    o = .and ∨ o = .xor ∨ o = .or →
    (∃ x, i = Form.aluOperand o x ∧ v = s.operand x ∧ bytes = [0x80 + 8 * o.field + x.field] ∧ count = x.cost 4 8)
      ∨ (i = Form.aluImm o v ∧ bytes = [0xC6 + 8 * o.field, v] ∧ count = 8) →
    encode i = bytes
    ∧ ∃ r : Byte, exec i s = .next { s with
          a := r, fZ := decide (r = 0x00), fN := false, fH := decide (o = .and), fC := false, cycles := count }
        ∧ ∀ k, k < 8 → r.getLsbD k = if o = .and then s.a.getLsbD k && v.getLsbD k
            else if o = .xor then s.a.getLsbD k != v.getLsbD k else s.a.getLsbD k || v.getLsbD k

/-- R198, R199 (D11: fC is kept): `INC` and `DEC` of the eight operands; the byte at `HL` is read once and written once. -/
def Obligations.IncrementAndDecrementByte : Prop :=
  ∀ (x : Operand8) (s : State),
    let v : Byte := s.operand x
    encode (Form.inc8 x) = [0x04 + 8 * x.field] ∧ encode (Form.dec8 x) = [0x05 + 8 * x.field]
    ∧ (∃ t, exec (Form.inc8 x) s = .next t
        ∧ t = { s.setOperand x (BitVec.ofNat 8 (v.toNat + 1)) with
                fZ := decide (v = 0xFF), fN := false, fH := decide (v.toNat % 16 = 15), cycles := x.cost 4 12 }
        ∧ s.SameButOperand t x)
    ∧ ∃ t, exec (Form.dec8 x) s = .next t
        ∧ t = { s.setOperand x (BitVec.ofNat 8 (v.toNat + 255)) with
                fZ := decide (v = 0x01), fN := true, fH := decide (v.toNat % 16 = 0), cycles := x.cost 4 12 }
        ∧ s.SameButOperand t x

/-- R200 (its table is K4): `DAA`, over the integers. -/
def Obligations.DecimalAdjust : Prop :=
  ∀ s : State,
    let a : Nat := s.a.toNat
    let six : Nat := if s.fH = true ∨ (s.fN = false ∧ a % 16 > 9) then 0x06 else 0
    let sixty : Nat := if s.fC = true ∨ (s.fN = false ∧ a > 0x99) then 0x60 else 0
    let r : Nat := (if s.fN then a + 256 - (six + sixty) else a + (six + sixty)) % 256
    encode .daa = [0x27]
    ∧ exec .daa s = .next { s with
        a := BitVec.ofNat 8 r, fZ := decide (r = 0), fH := false, fC := decide (sixty ≠ 0), cycles := 4 }

/-- What R200 is for: after `ADD A,d8` (R183) of two packed-BCD bytes, `DAA` leaves the packed-BCD sum of the two numbers modulo
100, and fC iff the sum is 100 or more; after `SUB d8` (R187), the difference modulo 100, and fC iff it borrows. `DAA`'s table is
general knowledge in the spec (K4), and the half-carry of a subtraction is its own decision D12: both are the model's choice
(log 20). -/
def Obligations.DecimalArithmetic : Prop :=
  ∀ (s t : State) (x y : Nat), x < 100 → y < 100 →
    s.a = BitVec.ofNat 8 (16 * (x / 10) + x % 10) →
    (exec (.add_A_d8 (BitVec.ofNat 8 (16 * (y / 10) + y % 10))) s = .next t →
      ∃ u, exec .daa t = .next u ∧ u.a.toNat = 16 * ((x + y) % 100 / 10) + (x + y) % 10 ∧ u.fC = decide (100 ≤ x + y))
    ∧ (exec (.sub_d8 (BitVec.ofNat 8 (16 * (y / 10) + y % 10))) s = .next t →
      ∃ u, exec .daa t = .next u ∧ u.a.toNat = 16 * ((x + 100 - y) % 100 / 10) + (x + 100 - y) % 10 ∧ u.fC = decide (x < y))

/-- R201, R202, R203 (D15). -/
def Obligations.ComplementAndCarryFlag : Prop :=
  ∀ s : State,
    encode .cpl = [0x2F] ∧ encode .scf = [0x37] ∧ encode .ccf = [0x3F]
    ∧ exec .cpl s = .next { s with a := BitVec.ofNat 8 (255 - s.a.toNat), fN := true, fH := true, cycles := 4 }
    ∧ exec .scf s = .next { s with fN := false, fH := false, fC := true, cycles := 4 }
    ∧ exec .ccf s = .next { s with fN := false, fH := false, fC := !s.fC, cycles := 4 }

/-- R210 to R214 (D13, K1 for the flags of `INC rr` and `DEC rr`): the 16-bit additions, over the integers. fZ and fN are written 0;
fH is the carry out of bit 11. -/
def Obligations.WordArithmetic : Prop :=
  ∀ (p : Pair) (e : Byte) (s : State),
    let b : Nat := (s.pair p).toNat
    let v : Nat := if e.toNat < 128 then e.toNat else 0xFF00 + e.toNat
    encode (Form.addHL p) = [0x09 + 16 * p.field] ∧ encode (Form.inc16 p) = [0x03 + 16 * p.field]
    ∧ encode (Form.dec16 p) = [0x0B + 16 * p.field] ∧ encode (.add_SP_e8 e) = [0xE8, e] ∧ encode (.ld_HL_SPe8 e) = [0xF8, e]
    ∧ exec (Form.addHL p) s = .next { s.setPair .hl (BitVec.ofNat 16 (s.hl.toNat + b)) with
        fZ := false, fN := false, fH := decide (s.hl.toNat % 4096 + b % 4096 > 4095), fC := decide (s.hl.toNat + b > 65535), cycles := 8 }
    ∧ exec (Form.inc16 p) s = .next { s.setPair p (BitVec.ofNat 16 (b + 1)) with cycles := 8 }
    ∧ exec (Form.dec16 p) s = .next { s.setPair p (BitVec.ofNat 16 (b + 65535)) with cycles := 8 }
    ∧ exec (.add_SP_e8 e) s = .next { s with
        sp := BitVec.ofNat 16 (s.sp.toNat + v), fZ := false, fN := false,
        fH := decide (s.sp.toNat % 4096 + v % 4096 > 4095), fC := decide (s.sp.toNat + v > 65535), cycles := 16 }
    ∧ exec (.ld_HL_SPe8 e) s = .next { s.setPair .hl (BitVec.ofNat 16 (s.sp.toNat + v)) with
        fZ := false, fN := false, fH := decide (s.sp.toNat % 4096 + v % 4096 > 4095), fC := decide (s.sp.toNat + v > 65535), cycles := 12 }

/-! ### Rotates, shifts and bits -/

/-- R220 to R223 (D14 for `RLA`, `RRA`): the rotates of `A`; fZ is cleared whatever the result. -/
def Obligations.RotateAccumulator : Prop :=
  ∀ (o : Rot) (i : Instr) (op : Byte) (s : State),
    (o = .rlc ∧ i = .rlca ∧ op = 0x07) ∨ (o = .rrc ∧ i = .rrca ∧ op = 0x0F) ∨ (o = .rl ∧ i = .rla ∧ op = 0x17)
      ∨ (o = .rr ∧ i = .rra ∧ op = 0x1F) →
    encode i = [op]
    ∧ exec i s = .next { s with
        a := BitVec.ofNat 8 (o.value s.a.toNat s.fC).1, fZ := false, fN := false, fH := false,
        fC := (o.value s.a.toNat s.fC).2, cycles := 4 }

/-- R225 to R232 (K6, D14: which mnemonic is which, and the cleared flags): the prefixed rotates and shifts, over the integers; fZ
from the result. -/
def Obligations.RotateAndShift : Prop :=
  ∀ (o : Rot) (x : Operand8) (s : State),
    let r : Nat := (o.value (s.operand x).toNat s.fC).1
    encode (Form.rot o x) = [0xCB, 8 * o.field + x.field]
    ∧ ∃ t, exec (Form.rot o x) s = .next t
        ∧ t = { s.setOperand x (BitVec.ofNat 8 r) with
                fZ := decide (r = 0), fN := false, fH := false, fC := (o.value (s.operand x).toNat s.fC).2, cycles := x.cost 8 16 }
        ∧ s.SameButOperand t x

/-- R233, R234, R235: `BIT` sets fZ iff the bit is clear, and writes neither the operand nor fC; `RES` and `SET` change one bit of
the operand and no flag. -/
def Obligations.BitInstructions : Prop :=
  ∀ (b : Fin 8) (x : Operand8) (s : State),
    encode (Form.bit b x) = [0xCB, 0x40 + 8 * BitVec.ofNat 8 b.val + x.field]
    ∧ encode (Form.res b x) = [0xCB, 0x80 + 8 * BitVec.ofNat 8 b.val + x.field]
    ∧ encode (Form.set b x) = [0xCB, 0xC0 + 8 * BitVec.ofNat 8 b.val + x.field]
    ∧ exec (Form.bit b x) s = .next { s with
        fZ := decide ((s.operand x).toNat / 2 ^ b.val % 2 = 0), fN := false, fH := true, cycles := x.cost 8 12 }
    ∧ (∃ (r : Byte) (t : State), exec (Form.res b x) s = .next t ∧ t = { s.setOperand x r with cycles := x.cost 8 16 }
        ∧ s.SameButOperand t x ∧ ∀ k, k < 8 → r.getLsbD k = (decide (k ≠ b.val) && (s.operand x).getLsbD k))
    ∧ ∃ (r : Byte) (t : State), exec (Form.set b x) s = .next t ∧ t = { s.setOperand x r with cycles := x.cost 8 16 }
        ∧ s.SameButOperand t x ∧ ∀ k, k < 8 → r.getLsbD k = (decide (k = b.val) || (s.operand x).getLsbD k)

/-- R224: the prefix row runs the entry of the second table that the next byte selects. The machine decodes the two bytes to that
entry and never to this row (assumption log 6). -/
def Obligations.PrefixRunsTheSecondTable : Prop :=
  ∀ (op2 b2 : Byte) (s : State),
    decodeBytes 0xCB op2 b2 = (decodeCB op2, 2) ∧ exec (.prefix_CB op2) s = exec (decodeCB op2) s
      ∧ ∃ t, exec (.prefix_CB op2) s = .next t

/-! ### Control transfer -/

/-- R251 to R255 with R250 and R110 (K7: the condition codes): the jumps. `PC` of `s` is past the instruction, displacement included. -/
def Obligations.Jumps : Prop :=
  ∀ (w : Word) (e : Byte) (cc : Cond) (holds : Bool) (s : State),
    (cc = .nz ∧ holds = !s.fZ) ∨ (cc = .z ∧ holds = s.fZ) ∨ (cc = .nc ∧ holds = !s.fC) ∨ (cc = .c ∧ holds = s.fC) →
    let low : Byte := BitVec.ofNat 8 w.toNat
    let high : Byte := BitVec.ofNat 8 (w.toNat / 256)
    let near : Word := BitVec.ofInt 16 (s.pc.toNat + e.toInt)
    encode (.jp_a16 w) = [0xC3, low, high] ∧ encode .jp_HL = [0xE9] ∧ encode (.jr_e8 e) = [0x18, e]
    ∧ encode (Form.jpCond cc w) = [0xC2 + 8 * cc.field, low, high] ∧ encode (Form.jrCond cc e) = [0x20 + 8 * cc.field, e]
    ∧ exec (.jp_a16 w) s = .next { s with pc := w, cycles := 16 }
    ∧ exec .jp_HL s = .next { s with pc := s.hl, cycles := 4 }
    ∧ exec (.jr_e8 e) s = .next { s with pc := near, cycles := 12 }
    ∧ exec (Form.jpCond cc w) s
        = .next (if holds then { s with pc := w, cycles := 16 } else { s with cycles := 12 })
    ∧ exec (Form.jrCond cc e) s
        = .next (if holds then { s with pc := near, cycles := 12 } else { s with cycles := 8 })

/-- R256, R257, R260 with R250 (K7: the condition codes, the targets of `RST`): the calls push the address of the next instruction;
one not taken touches neither `SP` nor memory. The wrap of `SP` is D6 and the order of a push's accesses D7. -/
def Obligations.Calls : Prop :=
  ∀ (i : Instr) (target : Word) (bytes : List Byte) (count : Nat) (s : State),
    (i = .call_a16 target ∧ bytes = [0xCD, BitVec.ofNat 8 target.toNat, BitVec.ofNat 8 (target.toNat / 256)] ∧ count = 24)
    ∨ (∃ cc, i = Form.callCond cc target
        ∧ ((cc = .nz ∧ s.fZ = false) ∨ (cc = .z ∧ s.fZ = true) ∨ (cc = .nc ∧ s.fC = false) ∨ (cc = .c ∧ s.fC = true))
        ∧ bytes = [0xC4 + 8 * cc.field, BitVec.ofNat 8 target.toNat, BitVec.ofNat 8 (target.toNat / 256)] ∧ count = 24)
    ∨ (∃ y : Fin 8, i = Form.rst y ∧ target = BitVec.ofNat 16 (8 * y.val) ∧ bytes = [0xC7 + 8 * BitVec.ofNat 8 y.val] ∧ count = 16) →
    encode i = bytes
    ∧ ∃ t, exec i s = .next t
        ∧ t = { ({ s with sp := s.sp - 2 } : State).write16 (s.sp - 2) s.pc with pc := target, cycles := count }
        ∧ t.sp = s.sp - 2 ∧ s.OnlyStack t ∧ s.SameOutside16 t (s.sp - 2)

/-- R258, R259, R261, R312 with R250 (K7): the returns pop `PC`; `RETI` also sets `ime`, and restores nothing else. A conditional
return or call (R257) whose condition does not hold only costs its cycles. The wrap of `SP` is D6. -/
def Obligations.ReturnsAndTransfersNotTaken : Prop :=
  ∀ (cc : Cond) (w : Word) (s : State),
    let back : State := { s with pc := s.read16 s.sp, sp := s.sp + 2 }
    encode .ret = [0xC9] ∧ encode .reti = [0xD9] ∧ encode (Form.retCond cc) = [0xC0 + 8 * cc.field]
    ∧ exec .ret s = .next { back with cycles := 16 } ∧ exec .reti s = .next { back with ime := true, cycles := 16 }
    ∧ ((cc = .nz ∧ s.fZ = false) ∨ (cc = .z ∧ s.fZ = true) ∨ (cc = .nc ∧ s.fC = false) ∨ (cc = .c ∧ s.fC = true) →
        exec (Form.retCond cc) s = .next { back with cycles := 20 })
    ∧ ((cc = .nz ∧ s.fZ = true) ∨ (cc = .z ∧ s.fZ = false) ∨ (cc = .nc ∧ s.fC = true) ∨ (cc = .c ∧ s.fC = false) →
        exec (Form.retCond cc) s = .next { s with cycles := 8 } ∧ exec (Form.callCond cc w) s = .next { s with cycles := 12 })

/-! ### System instructions -/

/-- R270 to R274 (D16: the second byte of `STOP` is ignored): each writes one mode flag, or none. -/
def Obligations.SystemInstructions : Prop :=
  ∀ (pad : Byte) (s : State),
    encode .nop = [0x00] ∧ encode .halt = [0x76] ∧ encode (.stop pad) = [0x10, pad] ∧ encode .di = [0xF3] ∧ encode .ei = [0xFB]
    ∧ exec .nop s = .next { s with cycles := 4 } ∧ exec .halt s = .next { s with halted := true, cycles := 4 }
    ∧ exec (.stop pad) s = .next { s with stopped := true, cycles := 4 }
    ∧ exec .di s = .next { s with ime := false, cycles := 4 } ∧ exec .ei s = .next { s with ime := true, cycles := 4 }

/-- R275 (D20, D37): an illegal opcode raises the decode fault, with the opcode, its address, the two bytes before it and the two
after it, and the registers. -/
def Obligations.IllegalOpcodesFault : Prop :=
  ∀ (i : Instr) (op : Byte) (s : State), i.illegalOpcode = some op →
    let a : Word := s.pc - 1
    encode i = [op]
    ∧ exec i s = .fault (.decodeFault op a (s.read8 (a - 2), s.read8 (a - 1)) (s.read8 (a + 1), s.read8 (a + 2))
        { a := s.a, f := BitVec.ofNat 8 s.af.toNat, b := s.b, c := s.c, d := s.d, e := s.e, h := s.h, l := s.l, sp := s.sp, pc := s.pc })

/-- R31, R35, R52, R53, R303, R316: every instruction but the eleven illegal ones completes, in every state; none changes an image,
the frame buffer, the budget or the fault latch; `boot` is never set; `ime` is changed by `EI`, `DI` and `RETI` alone,
`halted` by `HALT`, `stopped` by `STOP`. -/
def Obligations.EveryLegalInstructionCompletes : Prop :=
  ∀ (i : Instr) (s : State), i.illegalOpcode = none →
    ∃ t, exec i s = .next t
      ∧ t.bios = s.bios ∧ t.rom = s.rom ∧ t.fb = s.fb ∧ t.budget = s.budget ∧ t.faulted = s.faulted
      ∧ (t.boot = true → s.boot = true)
      ∧ (i ≠ .ei → i ≠ .di → i ≠ .reti → t.ime = s.ime)
      ∧ (i ≠ .halt → t.halted = s.halted) ∧ ((∀ pad, i ≠ .stop pad) → t.stopped = s.stopped)

/-! ### Interrupts and the timer -/

/-- R305, R306 (D44): a request of bits 0 to 3 sets one bit of `IF`, whatever `IE` and `ime` are, and changes nothing else; a request
of a higher bit faults and leaves `IF` as it was. -/
def Obligations.RequestInterrupt : Prop :=
  ∀ (s : State) (b : Nat), s.faulted = none →
    (b ≤ 3 → ∃ m, s.request b = .ok { s with mem := m }
      ∧ (∀ k, k < 8 → (m.read 0xFF0F).getLsbD k = (decide (k = b) || (s.mem.read 0xFF0F).getLsbD k))
      ∧ ∀ a, a ≠ 0xFF0F → m.read a = s.mem.read a)
    ∧ (3 < b → s.request b = .raised (.internalConsistencyFault b s.snapshot)
        { s with faulted := some (.internalConsistencyFault b s.snapshot) })

/-- R308, R310, R311, R306 (D18: `halted` is cleared too; D6, D7 for the push): the lowest bit of `IF & IE` is served: `PC`
is pushed through the bus, `PC` becomes the vector, that one bit of `IF` is cleared as the push left it, `ime` and `halted`
are cleared; nothing else is saved or changed. -/
def Obligations.DeliverInterrupt : Prop :=
  ∀ (s : State) (b : Nat), s.faulted = none → s.ime = true → b ≤ 3 →
    (s.mem.read 0xFF0F &&& s.mem.read 0xFFFF).getLsbD b = true →
    (∀ k, k < b → (s.mem.read 0xFF0F &&& s.mem.read 0xFFFF).getLsbD k = false) →
    let p : State := ({ s with sp := s.sp - 2 } : State).write16 (s.sp - 2) s.pc
    ∃ m, s.deliverIfPending = .ok { s with
          mem := m, boot := p.boot, sp := s.sp - 2, pc := [0x0040, 0x0048, 0x0050, 0x0060].getD b 0, ime := false, halted := false }
      ∧ (∀ k, k < 8 → (m.read 0xFF0F).getLsbD k = (decide (k ≠ b) && (p.mem.read 0xFF0F).getLsbD k))
      ∧ (∀ a, a ≠ 0xFF0F → m.read a = p.mem.read a) ∧ s.SameOutside16 p (s.sp - 2)

/-- R308, R309 (D21): nothing is delivered while `ime` is false or nothing enabled is pending; where the lowest pending enabled
bit is above 3, the check faults, with nothing pushed or changed. -/
def Obligations.DeliverNothingOrFault : Prop :=
  ∀ s : State, s.faulted = none →
    (s.ime = false ∨ s.mem.read 0xFF0F &&& s.mem.read 0xFFFF = 0x00 → s.deliverIfPending = .ok s)
    ∧ ∀ b, 3 < b → s.ime = true →
        (s.mem.read 0xFF0F &&& s.mem.read 0xFFFF).getLsbD b = true →
        (∀ k, k < b → (s.mem.read 0xFF0F &&& s.mem.read 0xFFFF).getLsbD k = false) →
        s.deliverIfPending = .raised (.internalConsistencyFault b s.snapshot)
          { s with faulted := some (.internalConsistencyFault b s.snapshot) }

/-- R320: the timer adds the elapsed cycles to the divider modulo 256, and changes nothing else. -/
def Obligations.TimerAdvance : Prop :=
  ∀ (s : State) (n : Nat),
    ∃ m, s.timerAdvance n = { s with mem := m } ∧ (m.read 0xFF04).toNat = ((s.mem.read 0xFF04).toNat + n) % 256
      ∧ ∀ a, a ≠ 0xFF04 → m.read a = s.mem.read a

/-! ### The PPU -/

/-- R331 (D26: the mode bits become 0): with `LCDC[7]` clear, `LY` is 0, the mode bits of `STAT` are 0, its other bits are kept, and
nothing else changes. -/
def Obligations.PpuDisabled : Prop :=
  ∀ (shades : Shades) (s : State) (n : Nat), (s.mem.read 0xFF40).getLsbD 7 = false →
    ∃ m, s.ppuAdvance shades n = { s with mem := m } ∧ m.read 0xFF44 = 0x00
      ∧ (∀ k, k < 8 → (m.read 0xFF41).getLsbD k = (decide (2 ≤ k) && (s.mem.read 0xFF41).getLsbD k))
      ∧ ∀ a, a ≠ 0xFF41 → a ≠ 0xFF44 → m.read a = s.mem.read a

/-- R330, R332, R333 (D27, D31): step 2 of an advance. The mode is 1 from line 144 on, else 2, 3 or 0 by the budget; on entry to
another mode whose enable bit is set, bit 1 of `IF` is set; the mode bits of `STAT` are replaced. -/
def Obligations.PpuModeEntry : Prop :=
  ∀ s : State,
    let stat : Byte := s.mem.read 0xFF41
    let mode : Nat :=
      if 144 ≤ (s.mem.read 0xFF44).toNat then 1 else if 377 ≤ s.budget then 2 else if 205 ≤ s.budget then 3 else 0
    let enabled : Bool := if mode = 0 then stat.getLsbD 3 else if mode = 1 then stat.getLsbD 4 else decide (mode = 2) && stat.getLsbD 5
    ∃ m, s.ppuEnterMode = { s with mem := m }
      ∧ (m.read 0xFF41).toNat = 4 * (stat.toNat / 4) + mode
      ∧ (∀ k, k < 8 → (m.read 0xFF0F).getLsbD k
          = ((s.mem.read 0xFF0F).getLsbD k || (decide (k = 1) && enabled && decide (stat.toNat % 4 ≠ mode))))
      ∧ ∀ a, a ≠ 0xFF41 → a ≠ 0xFF0F → m.read a = s.mem.read a

/-- R334 (D28, D29, D30): step 3 of an advance. Without underflow only the budget falls. On underflow it is 456 again, `LY` moves on or
wraps to 0 after 153, bit 0 of `IF` is set on the line that becomes 144, and row `ly` is rendered if it is a row. -/
def Obligations.PpuLineAdvance : Prop :=
  ∀ (shades : Shades) (s : State) (n : Nat),
    let ly : Nat := (s.mem.read 0xFF44).toNat
    (n ≤ s.budget → State.ppuLine shades s n = { s with budget := s.budget - n })
    ∧ (s.budget < n →
        ∃ m, State.ppuLine shades s n
            = { s with mem := m, budget := 456, fb := if ly < 144 then s.fb.set ly (renderedRow shades s ly) else s.fb }
          ∧ (m.read 0xFF44).toNat = (if ly < 153 then ly + 1 else 0)
          ∧ (∀ k, k < 8 → (m.read 0xFF0F).getLsbD k = ((s.mem.read 0xFF0F).getLsbD k || (decide (k = 0) && decide (ly = 143))))
          ∧ ∀ a, a ≠ 0xFF44 → a ≠ 0xFF0F → m.read a = s.mem.read a)

/-- R335: step 4 of an advance, and the order of the steps (R330). `STAT[2]` says whether `LY = LYC`; while it does and `STAT[6]` is
set, bit 1 of `IF` is set on every call. -/
def Obligations.PpuCoincidence : Prop :=
  (∀ s : State,
    let same : Bool := decide (s.mem.read 0xFF44 = s.mem.read 0xFF45)
    let stat : Byte := s.mem.read 0xFF41
    ∃ m, s.ppuCoincidence = { s with mem := m }
      ∧ (∀ k, k < 8 → (m.read 0xFF41).getLsbD k = if k = 2 then same else stat.getLsbD k)
      ∧ (∀ k, k < 8 → (m.read 0xFF0F).getLsbD k
          = ((s.mem.read 0xFF0F).getLsbD k || (decide (k = 1) && same && stat.getLsbD 6)))
      ∧ ∀ a, a ≠ 0xFF41 → a ≠ 0xFF0F → m.read a = s.mem.read a)
  ∧ ∀ (shades : Shades) (s : State) (n : Nat), (s.mem.read 0xFF40).getLsbD 7 = true →
      s.ppuAdvance shades n = (State.ppuLine shades s.ppuEnterMode n).ppuCoincidence

/-- R340 to R346 (D32, D33, K11): the four bytes of pixel (y, x), for every choice of the shades (D34); the other rows, and all other
state, are as before. -/
def Obligations.RenderedPixel : Prop :=
  ∀ (shades : Shades) (s : State) (y x : Nat) (j : Fin 4), s.fb.wf = true → y < 144 → x < 160 →
    let lcdc : Byte := s.mem.read 0xFF40
    let wy : Nat := (s.mem.read 0xFF4A).toNat
    let wx : Nat := (s.mem.read 0xFF4B).toNat
    let window : Bool := lcdc.getLsbD 5 && decide (wy ≤ y) && decide (wx ≤ x + 7)
    let xp : Nat := if window then x + 7 - wx else (x + (s.mem.read 0xFF43).toNat) % 256
    let yp : Nat := if window then y - wy else (y + (s.mem.read 0xFF42).toNat) % 256
    let base : Nat := if (if window then lcdc.getLsbD 6 else lcdc.getLsbD 3) then 0x9C00 else 0x9800
    let t : Byte := s.mem.read (base + yp / 8 * 32 + xp / 8)
    let tile : Int := if lcdc.getLsbD 4 then 0x8000 + 16 * t.toNat else 0x9000 + 16 * t.toInt
    let low : Byte := s.mem.read (tile.toNat + 2 * (yp % 8))
    let high : Byte := s.mem.read (tile.toNat + 2 * (yp % 8) + 1)
    let ci : Nat := 2 * (high.toNat / 2 ^ (7 - xp % 8) % 2) + low.toNat / 2 ^ (7 - xp % 8) % 2
    let t' : State := s.renderLine shades y
    t'.fb.byte y x j.val = shades (BitVec.ofNat 2 ((s.mem.read 0xFF47).toNat / 4 ^ ci % 4)) j
      ∧ (∀ row col k, row ≠ y → t'.fb.byte row col k = s.fb.byte row col k)
      ∧ t' = { s with fb := t'.fb }

/-! ### Reset and the host -/

/-- R380, R55 (D1 to D4: every value but `PC`, `boot` and fZ is the spec's decision): the state after reset, for every pair of images. -/
def Obligations.ResetState : Prop :=
  ∀ bios rom : Memory,
    let s : State := construct bios rom
    (∀ r, s.reg r = 0x00) ∧ s.fZ = false ∧ s.fN = false ∧ s.fH = false ∧ s.fC = false ∧ s.sp = 0x0000 ∧ s.pc = 0x0000
    ∧ s.boot = true ∧ s.ime = false ∧ s.halted = false ∧ s.stopped = false ∧ s.faulted = none
    ∧ (∀ a, s.mem.read a = 0x00) ∧ s.budget = 456 ∧ s.fb.length = 144 ∧ (∀ row ∈ s.fb, row.length = 640 ∧ ∀ v ∈ row, v = 0x00)
    ∧ s.bios = bios ∧ s.rom = rom ∧ construct [] [] = State.reset

/-- R396 (D36, D19): the host stores into 0xFF00 and nothing else, or wakes a stopped machine and changes nothing else. That both
hold of a faulted machine too is the model's choice (log 31). -/
def Obligations.HostActions : Prop :=
  ∀ (s : State) (v : Byte),
    (∃ m, s.hostSetJoyp v = { s with mem := m } ∧ m.read 0xFF00 = v ∧ ∀ a, a ≠ 0xFF00 → m.read a = s.mem.read a)
    ∧ s.hostWake = { s with stopped := false } ∧ (s.faulted = none → s.halted = false → s.hostWake.runState = .running)
end

