-- ==== Sys2Proof/Laws/Bits.lean ====
section
/-!
SUPPORT. The halves of a word, their joining, and the two extensions, as numbers.
-/

namespace Sys2Proof.Machine

theorem toNat_cat (h l : Byte) : (cat h l).toNat = 256 * h.toNat + l.toNat := by
  have := l.isLt
  rw [cat, BitVec.toNat_append, Nat.shiftLeft_eq, Nat.mul_comm, ← Nat.two_pow_add_eq_or_of_lt (by simpa using l.isLt)]

theorem toNat_lo (w : Word) : (lo w).toNat = w.toNat % 256 := by simp [lo]

theorem toNat_hi (w : Word) : (hi w).toNat = w.toNat / 256 := by
  have := w.isLt
  simp [hi, Nat.shiftRight_eq_div_pow]; omega

theorem lo_eq (w : Word) : lo w = BitVec.ofNat 8 w.toNat := BitVec.eq_of_toNat_eq (by simp [toNat_lo])

theorem hi_eq (w : Word) : hi w = BitVec.ofNat 8 (w.toNat / 256) := by
  have := w.isLt
  apply BitVec.eq_of_toNat_eq
  simp [toNat_hi]; omega

@[simp] theorem cat_hi_lo (w : Word) : cat (hi w) (lo w) = w := by
  apply BitVec.eq_of_toNat_eq
  rw [toNat_cat, toNat_hi, toNat_lo]; omega

@[simp] theorem hi_cat (h l : Byte) : hi (cat h l) = h := by
  apply BitVec.eq_of_toNat_eq
  have := l.isLt
  rw [toNat_hi, toNat_cat]; omega

@[simp] theorem lo_cat (h l : Byte) : lo (cat h l) = l := by
  apply BitVec.eq_of_toNat_eq
  have := l.isLt
  rw [toNat_lo, toNat_cat]; omega

theorem toNat_sext16 (e : Byte) : (sext16 e).toNat = if e.toNat < 128 then e.toNat else 0xFF00 + e.toNat := by
  have h : ∀ e : Byte, (sext16 e).toNat = if e.toNat < 128 then e.toNat else 0xFF00 + e.toNat := by decide +kernel
  exact h e

theorem toInt_sext16 (e : Byte) : (sext16 e).toInt = e.toInt := by
  have h : ∀ e : Byte, (sext16 e).toInt = e.toInt := by decide +kernel
  exact h e

/-- The low nibble of a byte. -/
theorem toNat_and_0x0F (v : Byte) : (v &&& 0x0F).toNat = v.toNat % 16 := by
  have h : ∀ v : Byte, (v &&& 0x0F).toNat = v.toNat % 16 := by decide +kernel
  exact h v

/-- The low twelve bits of a word. -/
theorem toNat_and_0x0FFF (w : Word) : (w &&& 0x0FFF).toNat = w.toNat % 4096 := by
  rw [BitVec.toNat_and]
  exact Nat.and_two_pow_sub_one_eq_mod w.toNat 12

end Sys2Proof.Machine
end

