-- ==== Sys2Proof/Laws/Memory.lean ====
section
/-!
SUPPORT. Memories as canonical lists: a read after a write, and the canonical form kept by every operation; the frame buffer's
shape.
-/

namespace Sys2Proof.Machine

/-! ### Reads after writes -/

theorem Memory.read_erase (m : Memory) (a k : Nat) : (Memory.erase m a).read k = if k = a then unlistedByte else m.read k := by
  induction m with
  | nil => simp [Memory.erase, Memory.read]
  | cons x t ih =>
    obtain ⟨j, v⟩ := x
    simp only [Memory.erase, Memory.read]
    split
    · rename_i h
      rw [ih]
      split
      · rfl
      · rw [if_neg (by omega)]
    · simp only [Memory.read, ih]
      split
      · rw [if_neg (by omega)]
      · rfl

theorem Memory.read_insert (m : Memory) (a k : Nat) (v : Byte) (hm : ∀ x ∈ m, x.1 ≠ a) :
    (Memory.insert m a v).read k = if k = a then v else m.read k := by
  induction m with
  | nil => simp only [Memory.insert, Memory.read, eq_comm (a := a)]
  | cons x t ih =>
    obtain ⟨j, w⟩ := x
    have hj : j ≠ a := hm (j, w) (by simp)
    simp only [Memory.insert]
    split
    · simp only [Memory.read, eq_comm (a := a)]
    · simp only [Memory.read, ih (fun x hx => hm x (by simp [hx]))]
      split
      · rw [if_neg (by omega)]
      · rfl

theorem Memory.erase_fst_ne (m : Memory) (a : Nat) : ∀ x ∈ Memory.erase m a, x.1 ≠ a := by
  induction m with
  | nil => simp [Memory.erase]
  | cons x t ih =>
    obtain ⟨j, v⟩ := x
    simp only [Memory.erase]
    split
    · exact ih
    · intro y hy
      rcases List.mem_cons.1 hy with rfl | hy
      · assumption
      · exact ih y hy

/-- A read after a write, at any address. -/
theorem Memory.read_write (m : Memory) (a k : Nat) (v : Byte) : (m.write a v).read k = if k = a then v else m.read k := by
  simp only [Memory.write]
  split
  · rename_i h
    rw [Memory.read_erase, h]
  · rw [Memory.read_insert _ _ _ _ (Memory.erase_fst_ne m a), Memory.read_erase]
    split <;> rfl

@[simp] theorem Memory.read_write_same (m : Memory) (a : Nat) (v : Byte) : (m.write a v).read a = v := by
  simp [Memory.read_write]

theorem Memory.read_write_ne (m : Memory) {a k : Nat} (v : Byte) (h : k ≠ a) : (m.write a v).read k = m.read k := by
  simp [Memory.read_write, h]

@[simp] theorem Memory.read_nil (k : Nat) : Memory.read [] k = 0x00 := rfl

/-! ### The canonical form -/

theorem Memory.wfFrom_mono {size low low' : Nat} {m : Memory} (h : Memory.wfFrom size low m = true) (hl : low' ≤ low) :
    Memory.wfFrom size low' m = true := by
  cases m with
  | nil => rfl
  | cons x t =>
    obtain ⟨k, v⟩ := x
    simp only [Memory.wfFrom, Bool.and_eq_true, decide_eq_true_eq] at h ⊢
    exact ⟨⟨⟨by omega, h.1.1.2⟩, h.1.2⟩, h.2⟩

theorem Memory.wfFrom_erase {size : Nat} (m : Memory) (low a : Nat) (h : Memory.wfFrom size low m = true) :
    Memory.wfFrom size low (Memory.erase m a) = true := by
  induction m generalizing low with
  | nil => rfl
  | cons x t ih =>
    obtain ⟨k, v⟩ := x
    simp only [Memory.wfFrom, Bool.and_eq_true, decide_eq_true_eq] at h
    simp only [Memory.erase]
    split
    · exact Memory.wfFrom_mono (ih (k + 1) h.2) (by omega)
    · simp only [Memory.wfFrom, Bool.and_eq_true, decide_eq_true_eq]
      exact ⟨h.1, ih (k + 1) h.2⟩

theorem Memory.wfFrom_insert {size : Nat} (m : Memory) (low a : Nat) (v : Byte) (h : Memory.wfFrom size low m = true)
    (hl : low ≤ a) (ha : a < size) (hv : v ≠ unlistedByte) (hm : ∀ x ∈ m, x.1 ≠ a) :
    Memory.wfFrom size low (Memory.insert m a v) = true := by
  induction m generalizing low with
  | nil => simpa [Memory.insert, Memory.wfFrom, hl, ha] using hv
  | cons x t ih =>
    obtain ⟨k, w⟩ := x
    have hk : k ≠ a := hm (k, w) (by simp)
    simp only [Memory.wfFrom, Bool.and_eq_true, decide_eq_true_eq] at h
    simp only [Memory.insert]
    split
    · simp only [Memory.wfFrom, Bool.and_eq_true, decide_eq_true_eq]
      exact ⟨⟨⟨hl, ha⟩, hv⟩, ⟨⟨by omega, h.1.1.2⟩, h.1.2⟩, h.2⟩
    · simp only [Memory.wfFrom, Bool.and_eq_true, decide_eq_true_eq]
      exact ⟨h.1, ih (k + 1) h.2 (by omega) (fun x hx => hm x (by simp [hx]))⟩

/-- A write keeps the canonical form. -/
theorem Memory.wf_write {size : Nat} {m : Memory} (a : Nat) (v : Byte) (h : Memory.wf size m = true) (ha : a < size) :
    Memory.wf size (m.write a v) = true := by
  simp only [Memory.wf, Memory.write] at *
  split
  · exact Memory.wfFrom_erase m 0 a h
  · exact Memory.wfFrom_insert _ 0 a v (Memory.wfFrom_erase m 0 a h) (by omega) ha (by assumption) (Memory.erase_fst_ne m a)

/-- A write lists no other address. -/
theorem Memory.mem_write {m : Memory} {a : Nat} {v : Byte} {x : Host.Cell} (h : x ∈ m.write a v) : x.1 = a ∨ x ∈ m := by
  have he : ∀ m : Memory, ∀ x ∈ Memory.erase m a, x ∈ m := by
    intro m
    induction m with
    | nil => simp [Memory.erase]
    | cons y t ih =>
      obtain ⟨k, w⟩ := y
      intro x hx
      simp only [Memory.erase] at hx
      split at hx
      · exact List.mem_cons_of_mem _ (ih x hx)
      · rcases List.mem_cons.1 hx with rfl | hx
        · simp
        · exact List.mem_cons_of_mem _ (ih x hx)
  have hi : ∀ m : Memory, ∀ x ∈ Memory.insert m a v, x = (a, v) ∨ x ∈ m := by
    intro m
    induction m with
    | nil => simp [Memory.insert]
    | cons y t ih =>
      obtain ⟨k, w⟩ := y
      intro x hx
      simp only [Memory.insert] at hx
      split at hx
      · simpa using hx
      · rcases List.mem_cons.1 hx with rfl | hx
        · simp
        · rcases ih x hx with h | h
          · exact .inl h
          · exact .inr (List.mem_cons_of_mem _ h)
  simp only [Memory.write] at h
  split at h
  · exact .inr (he m x h)
  · rcases hi _ x h with h | h
    · exact .inl (by rw [h])
    · exact .inr (he m x h)

/-! ### The frame buffer -/

theorem FrameBuffer.wf_putRow {fb : FrameBuffer} {y : Nat} {row : List Byte} (h : fb.wf = true) (hr : row.length = 640) :
    (fb.putRow y row).wf = true := by
  simp only [FrameBuffer.wf, FrameBuffer.putRow, Bool.and_eq_true, beq_iff_eq, List.all_eq_true, List.length_set] at *
  refine ⟨h.1, fun x hx => ?_⟩
  rcases List.mem_or_eq_of_mem_set hx with hx | rfl
  · exact h.2 x hx
  · exact hr

end Sys2Proof.Machine
end

