-- ==== Sys2Proof/Laws/State.lean ====
section
/-!
SUPPORT. Each field of the state after each update: one lemma per field, so that no proof unfolds an update.
-/

namespace Sys2Proof.Machine


/-! ### `setPc` -/

@[simp] theorem State.setPc_a (s : State) (w : Word) : (s.setPc w).a = s.a := rfl
@[simp] theorem State.setPc_b (s : State) (w : Word) : (s.setPc w).b = s.b := rfl
@[simp] theorem State.setPc_c (s : State) (w : Word) : (s.setPc w).c = s.c := rfl
@[simp] theorem State.setPc_d (s : State) (w : Word) : (s.setPc w).d = s.d := rfl
@[simp] theorem State.setPc_e (s : State) (w : Word) : (s.setPc w).e = s.e := rfl
@[simp] theorem State.setPc_h (s : State) (w : Word) : (s.setPc w).h = s.h := rfl
@[simp] theorem State.setPc_l (s : State) (w : Word) : (s.setPc w).l = s.l := rfl
@[simp] theorem State.setPc_fZ (s : State) (w : Word) : (s.setPc w).fZ = s.fZ := rfl
@[simp] theorem State.setPc_fN (s : State) (w : Word) : (s.setPc w).fN = s.fN := rfl
@[simp] theorem State.setPc_fH (s : State) (w : Word) : (s.setPc w).fH = s.fH := rfl
@[simp] theorem State.setPc_fC (s : State) (w : Word) : (s.setPc w).fC = s.fC := rfl
@[simp] theorem State.setPc_sp (s : State) (w : Word) : (s.setPc w).sp = s.sp := rfl
@[simp] theorem State.setPc_pc (s : State) (w : Word) : (s.setPc w).pc = w := rfl
@[simp] theorem State.setPc_boot (s : State) (w : Word) : (s.setPc w).boot = s.boot := rfl
@[simp] theorem State.setPc_ime (s : State) (w : Word) : (s.setPc w).ime = s.ime := rfl
@[simp] theorem State.setPc_halted (s : State) (w : Word) : (s.setPc w).halted = s.halted := rfl
@[simp] theorem State.setPc_stopped (s : State) (w : Word) : (s.setPc w).stopped = s.stopped := rfl
@[simp] theorem State.setPc_faulted (s : State) (w : Word) : (s.setPc w).faulted = s.faulted := rfl
@[simp] theorem State.setPc_mem (s : State) (w : Word) : (s.setPc w).mem = s.mem := rfl
@[simp] theorem State.setPc_bios (s : State) (w : Word) : (s.setPc w).bios = s.bios := rfl
@[simp] theorem State.setPc_rom (s : State) (w : Word) : (s.setPc w).rom = s.rom := rfl
@[simp] theorem State.setPc_budget (s : State) (w : Word) : (s.setPc w).budget = s.budget := rfl
@[simp] theorem State.setPc_fb (s : State) (w : Word) : (s.setPc w).fb = s.fb := rfl
@[simp] theorem State.setPc_cycles (s : State) (w : Word) : (s.setPc w).cycles = s.cycles := rfl

/-! ### `setSp` -/

@[simp] theorem State.setSp_a (s : State) (w : Word) : (s.setSp w).a = s.a := rfl
@[simp] theorem State.setSp_b (s : State) (w : Word) : (s.setSp w).b = s.b := rfl
@[simp] theorem State.setSp_c (s : State) (w : Word) : (s.setSp w).c = s.c := rfl
@[simp] theorem State.setSp_d (s : State) (w : Word) : (s.setSp w).d = s.d := rfl
@[simp] theorem State.setSp_e (s : State) (w : Word) : (s.setSp w).e = s.e := rfl
@[simp] theorem State.setSp_h (s : State) (w : Word) : (s.setSp w).h = s.h := rfl
@[simp] theorem State.setSp_l (s : State) (w : Word) : (s.setSp w).l = s.l := rfl
@[simp] theorem State.setSp_fZ (s : State) (w : Word) : (s.setSp w).fZ = s.fZ := rfl
@[simp] theorem State.setSp_fN (s : State) (w : Word) : (s.setSp w).fN = s.fN := rfl
@[simp] theorem State.setSp_fH (s : State) (w : Word) : (s.setSp w).fH = s.fH := rfl
@[simp] theorem State.setSp_fC (s : State) (w : Word) : (s.setSp w).fC = s.fC := rfl
@[simp] theorem State.setSp_sp (s : State) (w : Word) : (s.setSp w).sp = w := rfl
@[simp] theorem State.setSp_pc (s : State) (w : Word) : (s.setSp w).pc = s.pc := rfl
@[simp] theorem State.setSp_boot (s : State) (w : Word) : (s.setSp w).boot = s.boot := rfl
@[simp] theorem State.setSp_ime (s : State) (w : Word) : (s.setSp w).ime = s.ime := rfl
@[simp] theorem State.setSp_halted (s : State) (w : Word) : (s.setSp w).halted = s.halted := rfl
@[simp] theorem State.setSp_stopped (s : State) (w : Word) : (s.setSp w).stopped = s.stopped := rfl
@[simp] theorem State.setSp_faulted (s : State) (w : Word) : (s.setSp w).faulted = s.faulted := rfl
@[simp] theorem State.setSp_mem (s : State) (w : Word) : (s.setSp w).mem = s.mem := rfl
@[simp] theorem State.setSp_bios (s : State) (w : Word) : (s.setSp w).bios = s.bios := rfl
@[simp] theorem State.setSp_rom (s : State) (w : Word) : (s.setSp w).rom = s.rom := rfl
@[simp] theorem State.setSp_budget (s : State) (w : Word) : (s.setSp w).budget = s.budget := rfl
@[simp] theorem State.setSp_fb (s : State) (w : Word) : (s.setSp w).fb = s.fb := rfl
@[simp] theorem State.setSp_cycles (s : State) (w : Word) : (s.setSp w).cycles = s.cycles := rfl

/-! ### `setCycles` -/

@[simp] theorem State.setCycles_a (s : State) (n : Nat) : (s.setCycles n).a = s.a := rfl
@[simp] theorem State.setCycles_b (s : State) (n : Nat) : (s.setCycles n).b = s.b := rfl
@[simp] theorem State.setCycles_c (s : State) (n : Nat) : (s.setCycles n).c = s.c := rfl
@[simp] theorem State.setCycles_d (s : State) (n : Nat) : (s.setCycles n).d = s.d := rfl
@[simp] theorem State.setCycles_e (s : State) (n : Nat) : (s.setCycles n).e = s.e := rfl
@[simp] theorem State.setCycles_h (s : State) (n : Nat) : (s.setCycles n).h = s.h := rfl
@[simp] theorem State.setCycles_l (s : State) (n : Nat) : (s.setCycles n).l = s.l := rfl
@[simp] theorem State.setCycles_fZ (s : State) (n : Nat) : (s.setCycles n).fZ = s.fZ := rfl
@[simp] theorem State.setCycles_fN (s : State) (n : Nat) : (s.setCycles n).fN = s.fN := rfl
@[simp] theorem State.setCycles_fH (s : State) (n : Nat) : (s.setCycles n).fH = s.fH := rfl
@[simp] theorem State.setCycles_fC (s : State) (n : Nat) : (s.setCycles n).fC = s.fC := rfl
@[simp] theorem State.setCycles_sp (s : State) (n : Nat) : (s.setCycles n).sp = s.sp := rfl
@[simp] theorem State.setCycles_pc (s : State) (n : Nat) : (s.setCycles n).pc = s.pc := rfl
@[simp] theorem State.setCycles_boot (s : State) (n : Nat) : (s.setCycles n).boot = s.boot := rfl
@[simp] theorem State.setCycles_ime (s : State) (n : Nat) : (s.setCycles n).ime = s.ime := rfl
@[simp] theorem State.setCycles_halted (s : State) (n : Nat) : (s.setCycles n).halted = s.halted := rfl
@[simp] theorem State.setCycles_stopped (s : State) (n : Nat) : (s.setCycles n).stopped = s.stopped := rfl
@[simp] theorem State.setCycles_faulted (s : State) (n : Nat) : (s.setCycles n).faulted = s.faulted := rfl
@[simp] theorem State.setCycles_mem (s : State) (n : Nat) : (s.setCycles n).mem = s.mem := rfl
@[simp] theorem State.setCycles_bios (s : State) (n : Nat) : (s.setCycles n).bios = s.bios := rfl
@[simp] theorem State.setCycles_rom (s : State) (n : Nat) : (s.setCycles n).rom = s.rom := rfl
@[simp] theorem State.setCycles_budget (s : State) (n : Nat) : (s.setCycles n).budget = s.budget := rfl
@[simp] theorem State.setCycles_fb (s : State) (n : Nat) : (s.setCycles n).fb = s.fb := rfl
@[simp] theorem State.setCycles_cycles (s : State) (n : Nat) : (s.setCycles n).cycles = n := rfl

/-! ### `setFlags` -/

@[simp] theorem State.setFlags_a (s : State) (z n h' c' : Bool) : (s.setFlags z n h' c').a = s.a := rfl
@[simp] theorem State.setFlags_b (s : State) (z n h' c' : Bool) : (s.setFlags z n h' c').b = s.b := rfl
@[simp] theorem State.setFlags_c (s : State) (z n h' c' : Bool) : (s.setFlags z n h' c').c = s.c := rfl
@[simp] theorem State.setFlags_d (s : State) (z n h' c' : Bool) : (s.setFlags z n h' c').d = s.d := rfl
@[simp] theorem State.setFlags_e (s : State) (z n h' c' : Bool) : (s.setFlags z n h' c').e = s.e := rfl
@[simp] theorem State.setFlags_h (s : State) (z n h' c' : Bool) : (s.setFlags z n h' c').h = s.h := rfl
@[simp] theorem State.setFlags_l (s : State) (z n h' c' : Bool) : (s.setFlags z n h' c').l = s.l := rfl
@[simp] theorem State.setFlags_fZ (s : State) (z n h' c' : Bool) : (s.setFlags z n h' c').fZ = z := rfl
@[simp] theorem State.setFlags_fN (s : State) (z n h' c' : Bool) : (s.setFlags z n h' c').fN = n := rfl
@[simp] theorem State.setFlags_fH (s : State) (z n h' c' : Bool) : (s.setFlags z n h' c').fH = h' := rfl
@[simp] theorem State.setFlags_fC (s : State) (z n h' c' : Bool) : (s.setFlags z n h' c').fC = c' := rfl
@[simp] theorem State.setFlags_sp (s : State) (z n h' c' : Bool) : (s.setFlags z n h' c').sp = s.sp := rfl
@[simp] theorem State.setFlags_pc (s : State) (z n h' c' : Bool) : (s.setFlags z n h' c').pc = s.pc := rfl
@[simp] theorem State.setFlags_boot (s : State) (z n h' c' : Bool) : (s.setFlags z n h' c').boot = s.boot := rfl
@[simp] theorem State.setFlags_ime (s : State) (z n h' c' : Bool) : (s.setFlags z n h' c').ime = s.ime := rfl
@[simp] theorem State.setFlags_halted (s : State) (z n h' c' : Bool) : (s.setFlags z n h' c').halted = s.halted := rfl
@[simp] theorem State.setFlags_stopped (s : State) (z n h' c' : Bool) : (s.setFlags z n h' c').stopped = s.stopped := rfl
@[simp] theorem State.setFlags_faulted (s : State) (z n h' c' : Bool) : (s.setFlags z n h' c').faulted = s.faulted := rfl
@[simp] theorem State.setFlags_mem (s : State) (z n h' c' : Bool) : (s.setFlags z n h' c').mem = s.mem := rfl
@[simp] theorem State.setFlags_bios (s : State) (z n h' c' : Bool) : (s.setFlags z n h' c').bios = s.bios := rfl
@[simp] theorem State.setFlags_rom (s : State) (z n h' c' : Bool) : (s.setFlags z n h' c').rom = s.rom := rfl
@[simp] theorem State.setFlags_budget (s : State) (z n h' c' : Bool) : (s.setFlags z n h' c').budget = s.budget := rfl
@[simp] theorem State.setFlags_fb (s : State) (z n h' c' : Bool) : (s.setFlags z n h' c').fb = s.fb := rfl
@[simp] theorem State.setFlags_cycles (s : State) (z n h' c' : Bool) : (s.setFlags z n h' c').cycles = s.cycles := rfl

/-! ### `setDirect` -/

@[simp] theorem State.setDirect_a (s : State) (k : Nat) (v : Byte) : (s.setDirect k v).a = s.a := rfl
@[simp] theorem State.setDirect_b (s : State) (k : Nat) (v : Byte) : (s.setDirect k v).b = s.b := rfl
@[simp] theorem State.setDirect_c (s : State) (k : Nat) (v : Byte) : (s.setDirect k v).c = s.c := rfl
@[simp] theorem State.setDirect_d (s : State) (k : Nat) (v : Byte) : (s.setDirect k v).d = s.d := rfl
@[simp] theorem State.setDirect_e (s : State) (k : Nat) (v : Byte) : (s.setDirect k v).e = s.e := rfl
@[simp] theorem State.setDirect_h (s : State) (k : Nat) (v : Byte) : (s.setDirect k v).h = s.h := rfl
@[simp] theorem State.setDirect_l (s : State) (k : Nat) (v : Byte) : (s.setDirect k v).l = s.l := rfl
@[simp] theorem State.setDirect_fZ (s : State) (k : Nat) (v : Byte) : (s.setDirect k v).fZ = s.fZ := rfl
@[simp] theorem State.setDirect_fN (s : State) (k : Nat) (v : Byte) : (s.setDirect k v).fN = s.fN := rfl
@[simp] theorem State.setDirect_fH (s : State) (k : Nat) (v : Byte) : (s.setDirect k v).fH = s.fH := rfl
@[simp] theorem State.setDirect_fC (s : State) (k : Nat) (v : Byte) : (s.setDirect k v).fC = s.fC := rfl
@[simp] theorem State.setDirect_sp (s : State) (k : Nat) (v : Byte) : (s.setDirect k v).sp = s.sp := rfl
@[simp] theorem State.setDirect_pc (s : State) (k : Nat) (v : Byte) : (s.setDirect k v).pc = s.pc := rfl
@[simp] theorem State.setDirect_boot (s : State) (k : Nat) (v : Byte) : (s.setDirect k v).boot = s.boot := rfl
@[simp] theorem State.setDirect_ime (s : State) (k : Nat) (v : Byte) : (s.setDirect k v).ime = s.ime := rfl
@[simp] theorem State.setDirect_halted (s : State) (k : Nat) (v : Byte) : (s.setDirect k v).halted = s.halted := rfl
@[simp] theorem State.setDirect_stopped (s : State) (k : Nat) (v : Byte) : (s.setDirect k v).stopped = s.stopped := rfl
@[simp] theorem State.setDirect_faulted (s : State) (k : Nat) (v : Byte) : (s.setDirect k v).faulted = s.faulted := rfl
@[simp] theorem State.setDirect_mem (s : State) (k : Nat) (v : Byte) : (s.setDirect k v).mem = s.mem.write k v := rfl
@[simp] theorem State.setDirect_bios (s : State) (k : Nat) (v : Byte) : (s.setDirect k v).bios = s.bios := rfl
@[simp] theorem State.setDirect_rom (s : State) (k : Nat) (v : Byte) : (s.setDirect k v).rom = s.rom := rfl
@[simp] theorem State.setDirect_budget (s : State) (k : Nat) (v : Byte) : (s.setDirect k v).budget = s.budget := rfl
@[simp] theorem State.setDirect_fb (s : State) (k : Nat) (v : Byte) : (s.setDirect k v).fb = s.fb := rfl
@[simp] theorem State.setDirect_cycles (s : State) (k : Nat) (v : Byte) : (s.setDirect k v).cycles = s.cycles := rfl

/-! ### `latch` -/

@[simp] theorem State.latch_a (s : State) (f : Fault) : (s.latch f).a = s.a := rfl
@[simp] theorem State.latch_b (s : State) (f : Fault) : (s.latch f).b = s.b := rfl
@[simp] theorem State.latch_c (s : State) (f : Fault) : (s.latch f).c = s.c := rfl
@[simp] theorem State.latch_d (s : State) (f : Fault) : (s.latch f).d = s.d := rfl
@[simp] theorem State.latch_e (s : State) (f : Fault) : (s.latch f).e = s.e := rfl
@[simp] theorem State.latch_h (s : State) (f : Fault) : (s.latch f).h = s.h := rfl
@[simp] theorem State.latch_l (s : State) (f : Fault) : (s.latch f).l = s.l := rfl
@[simp] theorem State.latch_fZ (s : State) (f : Fault) : (s.latch f).fZ = s.fZ := rfl
@[simp] theorem State.latch_fN (s : State) (f : Fault) : (s.latch f).fN = s.fN := rfl
@[simp] theorem State.latch_fH (s : State) (f : Fault) : (s.latch f).fH = s.fH := rfl
@[simp] theorem State.latch_fC (s : State) (f : Fault) : (s.latch f).fC = s.fC := rfl
@[simp] theorem State.latch_sp (s : State) (f : Fault) : (s.latch f).sp = s.sp := rfl
@[simp] theorem State.latch_pc (s : State) (f : Fault) : (s.latch f).pc = s.pc := rfl
@[simp] theorem State.latch_boot (s : State) (f : Fault) : (s.latch f).boot = s.boot := rfl
@[simp] theorem State.latch_ime (s : State) (f : Fault) : (s.latch f).ime = s.ime := rfl
@[simp] theorem State.latch_halted (s : State) (f : Fault) : (s.latch f).halted = s.halted := rfl
@[simp] theorem State.latch_stopped (s : State) (f : Fault) : (s.latch f).stopped = s.stopped := rfl
@[simp] theorem State.latch_faulted (s : State) (f : Fault) : (s.latch f).faulted = some f := rfl
@[simp] theorem State.latch_mem (s : State) (f : Fault) : (s.latch f).mem = s.mem := rfl
@[simp] theorem State.latch_bios (s : State) (f : Fault) : (s.latch f).bios = s.bios := rfl
@[simp] theorem State.latch_rom (s : State) (f : Fault) : (s.latch f).rom = s.rom := rfl
@[simp] theorem State.latch_budget (s : State) (f : Fault) : (s.latch f).budget = s.budget := rfl
@[simp] theorem State.latch_fb (s : State) (f : Fault) : (s.latch f).fb = s.fb := rfl
@[simp] theorem State.latch_cycles (s : State) (f : Fault) : (s.latch f).cycles = s.cycles := rfl

/-! ### `dropTop` -/

@[simp] theorem State.dropTop_a (s : State) : (s.dropTop).a = s.a := rfl
@[simp] theorem State.dropTop_b (s : State) : (s.dropTop).b = s.b := rfl
@[simp] theorem State.dropTop_c (s : State) : (s.dropTop).c = s.c := rfl
@[simp] theorem State.dropTop_d (s : State) : (s.dropTop).d = s.d := rfl
@[simp] theorem State.dropTop_e (s : State) : (s.dropTop).e = s.e := rfl
@[simp] theorem State.dropTop_h (s : State) : (s.dropTop).h = s.h := rfl
@[simp] theorem State.dropTop_l (s : State) : (s.dropTop).l = s.l := rfl
@[simp] theorem State.dropTop_fZ (s : State) : (s.dropTop).fZ = s.fZ := rfl
@[simp] theorem State.dropTop_fN (s : State) : (s.dropTop).fN = s.fN := rfl
@[simp] theorem State.dropTop_fH (s : State) : (s.dropTop).fH = s.fH := rfl
@[simp] theorem State.dropTop_fC (s : State) : (s.dropTop).fC = s.fC := rfl
@[simp] theorem State.dropTop_sp (s : State) : (s.dropTop).sp = s.sp + 2 := rfl
@[simp] theorem State.dropTop_pc (s : State) : (s.dropTop).pc = s.pc := rfl
@[simp] theorem State.dropTop_boot (s : State) : (s.dropTop).boot = s.boot := rfl
@[simp] theorem State.dropTop_ime (s : State) : (s.dropTop).ime = s.ime := rfl
@[simp] theorem State.dropTop_halted (s : State) : (s.dropTop).halted = s.halted := rfl
@[simp] theorem State.dropTop_stopped (s : State) : (s.dropTop).stopped = s.stopped := rfl
@[simp] theorem State.dropTop_faulted (s : State) : (s.dropTop).faulted = s.faulted := rfl
@[simp] theorem State.dropTop_mem (s : State) : (s.dropTop).mem = s.mem := rfl
@[simp] theorem State.dropTop_bios (s : State) : (s.dropTop).bios = s.bios := rfl
@[simp] theorem State.dropTop_rom (s : State) : (s.dropTop).rom = s.rom := rfl
@[simp] theorem State.dropTop_budget (s : State) : (s.dropTop).budget = s.budget := rfl
@[simp] theorem State.dropTop_fb (s : State) : (s.dropTop).fb = s.fb := rfl
@[simp] theorem State.dropTop_cycles (s : State) : (s.dropTop).cycles = s.cycles := rfl

/-! ### Writes of a register, a pair or a flag view: everything but registers, flags and `SP` is as before -/

@[simp] theorem State.setReg_pc (s : State) (r : Reg8) (v : Byte) : (s.setReg r v).pc = s.pc := by cases r <;> rfl
@[simp] theorem State.setReg_boot (s : State) (r : Reg8) (v : Byte) : (s.setReg r v).boot = s.boot := by cases r <;> rfl
@[simp] theorem State.setReg_ime (s : State) (r : Reg8) (v : Byte) : (s.setReg r v).ime = s.ime := by cases r <;> rfl
@[simp] theorem State.setReg_halted (s : State) (r : Reg8) (v : Byte) : (s.setReg r v).halted = s.halted := by cases r <;> rfl
@[simp] theorem State.setReg_stopped (s : State) (r : Reg8) (v : Byte) : (s.setReg r v).stopped = s.stopped := by cases r <;> rfl
@[simp] theorem State.setReg_faulted (s : State) (r : Reg8) (v : Byte) : (s.setReg r v).faulted = s.faulted := by cases r <;> rfl
@[simp] theorem State.setReg_mem (s : State) (r : Reg8) (v : Byte) : (s.setReg r v).mem = s.mem := by cases r <;> rfl
@[simp] theorem State.setReg_bios (s : State) (r : Reg8) (v : Byte) : (s.setReg r v).bios = s.bios := by cases r <;> rfl
@[simp] theorem State.setReg_rom (s : State) (r : Reg8) (v : Byte) : (s.setReg r v).rom = s.rom := by cases r <;> rfl
@[simp] theorem State.setReg_budget (s : State) (r : Reg8) (v : Byte) : (s.setReg r v).budget = s.budget := by cases r <;> rfl
@[simp] theorem State.setReg_fb (s : State) (r : Reg8) (v : Byte) : (s.setReg r v).fb = s.fb := by cases r <;> rfl
@[simp] theorem State.setReg_cycles (s : State) (r : Reg8) (v : Byte) : (s.setReg r v).cycles = s.cycles := by cases r <;> rfl
@[simp] theorem State.setReg_fZ (s : State) (r : Reg8) (v : Byte) : (s.setReg r v).fZ = s.fZ := by cases r <;> rfl
@[simp] theorem State.setReg_fN (s : State) (r : Reg8) (v : Byte) : (s.setReg r v).fN = s.fN := by cases r <;> rfl
@[simp] theorem State.setReg_fH (s : State) (r : Reg8) (v : Byte) : (s.setReg r v).fH = s.fH := by cases r <;> rfl
@[simp] theorem State.setReg_fC (s : State) (r : Reg8) (v : Byte) : (s.setReg r v).fC = s.fC := by cases r <;> rfl
@[simp] theorem State.setReg_sp (s : State) (r : Reg8) (v : Byte) : (s.setReg r v).sp = s.sp := by cases r <;> rfl
@[simp] theorem State.setPair_pc (s : State) (p : Pair) (w : Word) : (s.setPair p w).pc = s.pc := by cases p <;> rfl
@[simp] theorem State.setPair_boot (s : State) (p : Pair) (w : Word) : (s.setPair p w).boot = s.boot := by cases p <;> rfl
@[simp] theorem State.setPair_ime (s : State) (p : Pair) (w : Word) : (s.setPair p w).ime = s.ime := by cases p <;> rfl
@[simp] theorem State.setPair_halted (s : State) (p : Pair) (w : Word) : (s.setPair p w).halted = s.halted := by cases p <;> rfl
@[simp] theorem State.setPair_stopped (s : State) (p : Pair) (w : Word) : (s.setPair p w).stopped = s.stopped := by cases p <;> rfl
@[simp] theorem State.setPair_faulted (s : State) (p : Pair) (w : Word) : (s.setPair p w).faulted = s.faulted := by cases p <;> rfl
@[simp] theorem State.setPair_mem (s : State) (p : Pair) (w : Word) : (s.setPair p w).mem = s.mem := by cases p <;> rfl
@[simp] theorem State.setPair_bios (s : State) (p : Pair) (w : Word) : (s.setPair p w).bios = s.bios := by cases p <;> rfl
@[simp] theorem State.setPair_rom (s : State) (p : Pair) (w : Word) : (s.setPair p w).rom = s.rom := by cases p <;> rfl
@[simp] theorem State.setPair_budget (s : State) (p : Pair) (w : Word) : (s.setPair p w).budget = s.budget := by cases p <;> rfl
@[simp] theorem State.setPair_fb (s : State) (p : Pair) (w : Word) : (s.setPair p w).fb = s.fb := by cases p <;> rfl
@[simp] theorem State.setPair_cycles (s : State) (p : Pair) (w : Word) : (s.setPair p w).cycles = s.cycles := by cases p <;> rfl
@[simp] theorem State.setPair_fZ (s : State) (p : Pair) (w : Word) : (s.setPair p w).fZ = s.fZ := by cases p <;> rfl
@[simp] theorem State.setPair_fN (s : State) (p : Pair) (w : Word) : (s.setPair p w).fN = s.fN := by cases p <;> rfl
@[simp] theorem State.setPair_fH (s : State) (p : Pair) (w : Word) : (s.setPair p w).fH = s.fH := by cases p <;> rfl
@[simp] theorem State.setPair_fC (s : State) (p : Pair) (w : Word) : (s.setPair p w).fC = s.fC := by cases p <;> rfl
@[simp] theorem State.setPair_a (s : State) (p : Pair) (w : Word) : (s.setPair p w).a = s.a := by cases p <;> rfl
@[simp] theorem State.setStackPair_pc (s : State) (q : StackPair) (w : Word) : (s.setStackPair q w).pc = s.pc := by cases q <;> rfl
@[simp] theorem State.setStackPair_boot (s : State) (q : StackPair) (w : Word) : (s.setStackPair q w).boot = s.boot := by cases q <;> rfl
@[simp] theorem State.setStackPair_ime (s : State) (q : StackPair) (w : Word) : (s.setStackPair q w).ime = s.ime := by cases q <;> rfl
@[simp] theorem State.setStackPair_halted (s : State) (q : StackPair) (w : Word) : (s.setStackPair q w).halted = s.halted := by cases q <;> rfl
@[simp] theorem State.setStackPair_stopped (s : State) (q : StackPair) (w : Word) : (s.setStackPair q w).stopped = s.stopped := by cases q <;> rfl
@[simp] theorem State.setStackPair_faulted (s : State) (q : StackPair) (w : Word) : (s.setStackPair q w).faulted = s.faulted := by cases q <;> rfl
@[simp] theorem State.setStackPair_mem (s : State) (q : StackPair) (w : Word) : (s.setStackPair q w).mem = s.mem := by cases q <;> rfl
@[simp] theorem State.setStackPair_bios (s : State) (q : StackPair) (w : Word) : (s.setStackPair q w).bios = s.bios := by cases q <;> rfl
@[simp] theorem State.setStackPair_rom (s : State) (q : StackPair) (w : Word) : (s.setStackPair q w).rom = s.rom := by cases q <;> rfl
@[simp] theorem State.setStackPair_budget (s : State) (q : StackPair) (w : Word) : (s.setStackPair q w).budget = s.budget := by cases q <;> rfl
@[simp] theorem State.setStackPair_fb (s : State) (q : StackPair) (w : Word) : (s.setStackPair q w).fb = s.fb := by cases q <;> rfl
@[simp] theorem State.setStackPair_cycles (s : State) (q : StackPair) (w : Word) : (s.setStackPair q w).cycles = s.cycles := by cases q <;> rfl
@[simp] theorem State.setStackPair_sp (s : State) (q : StackPair) (w : Word) : (s.setStackPair q w).sp = s.sp := by cases q <;> rfl

/-! ### Reads through the bus see `boot`, `Mem` and the two images only -/

theorem State.read8_congr {s t : State} (hb : t.boot = s.boot) (hm : t.mem = s.mem) (hi : t.bios = s.bios) (hr : t.rom = s.rom)
    (a : Word) : t.read8 a = s.read8 a := by
  simp only [State.read8, State.direct, hb, hm, hi, hr]

theorem State.read16_congr {s t : State} (hb : t.boot = s.boot) (hm : t.mem = s.mem) (hi : t.bios = s.bios) (hr : t.rom = s.rom)
    (a : Word) : t.read16 a = s.read16 a := by
  simp only [State.read16, State.read8_congr hb hm hi hr]

@[simp] theorem State.read8_setPc (s : State) (w a : Word) : (s.setPc w).read8 a = s.read8 a := rfl
@[simp] theorem State.read8_setSp (s : State) (w a : Word) : (s.setSp w).read8 a = s.read8 a := rfl
@[simp] theorem State.read8_setCycles (s : State) (n : Nat) (a : Word) : (s.setCycles n).read8 a = s.read8 a := rfl
@[simp] theorem State.read8_setFlags (s : State) (z n h' c' : Bool) (a : Word) : (s.setFlags z n h' c').read8 a = s.read8 a := rfl
@[simp] theorem State.read8_latch (s : State) (f : Fault) (a : Word) : (s.latch f).read8 a = s.read8 a := rfl

@[simp] theorem State.read8_setReg (s : State) (r : Reg8) (v : Byte) (a : Word) : (s.setReg r v).read8 a = s.read8 a := by
  cases r <;> rfl

@[simp] theorem State.read8_setPair (s : State) (p : Pair) (w a : Word) : (s.setPair p w).read8 a = s.read8 a := by
  cases p <;> rfl

end Sys2Proof.Machine
end

