-- ==== Sys2Proof/Laws/Bus.lean ====
section
/-!
SUPPORT. The bus, said once: what a read returns, the five things a write can do, what it leaves as it was, and that it keeps the
invariant.
-/

namespace Sys2Proof.Machine

/-! ### Reads -/

theorem State.read8_low (s : State) {a : Word} (h : a.toNat < 0x8000) :
    s.read8 a = if a.toNat < 0x0100 ∧ s.boot = true then s.bios.read a.toNat else s.rom.read a.toNat := by
  simp only [State.read8, regionOf]
  by_cases h1 : a.toNat < 0x0100
  · cases hb : s.boot <;> simp [h1]
  · simp [h1, h]

theorem State.read8_unusable (s : State) {a : Word} (h1 : 0xFEA0 ≤ a.toNat) (h2 : a.toNat < 0xFF00) : s.read8 a = 0x00 := by
  simp only [State.read8, regionOf]
  repeat rw [if_neg (by omega)]
  rw [if_pos (by omega)]

/-- At 0x8000 and above, but for the unusable range, a read is of the byte of `Mem` that the address names. -/
theorem State.read8_high (s : State) {a : Word} (h1 : 0x8000 ≤ a.toNat) (h2 : ¬(0xFEA0 ≤ a.toNat ∧ a.toNat < 0xFF00)) :
    s.read8 a = s.mem.read (canonical a) := by
  have := a.isLt
  simp only [State.read8, regionOf, canonical, State.direct]
  rw [if_neg (by omega), if_neg (by omega)]
  by_cases h3 : a.toNat < 0xA000
  · rw [if_pos h3, if_neg (by omega)]
  by_cases h4 : a.toNat < 0xC000
  · rw [if_neg h3, if_pos h4, if_neg (by omega)]
  by_cases h5 : a.toNat < 0xE000
  · rw [if_neg h3, if_neg h4, if_pos h5, if_neg (by omega)]
  by_cases h6 : a.toNat < 0xFE00
  · rw [if_neg h3, if_neg h4, if_neg h5, if_pos h6, if_pos (by omega)]
  rw [if_neg h3, if_neg h4, if_neg h5, if_neg h6, if_neg (c := 0xE000 ≤ a.toNat ∧ a.toNat < 0xFE00) (by omega)]
  by_cases h7 : a.toNat < 0xFEA0
  · rw [if_pos h7]
  rw [if_neg h7, if_neg (by omega)]
  by_cases h8 : a.toNat < 0xFF80
  · rw [if_pos h8]
  rw [if_neg h8]
  by_cases h9 : a.toNat < 0xFFFF
  · rw [if_pos h9]
  · rw [if_neg h9]

/-! ### The copy into object attribute memory -/

theorem State.dmaByte_eq (src : Word) (s : State) (i : Nat) : dmaByte src s i = { s with mem := (dmaByte src s i).mem } := rfl

/-- After `n` bytes of the copy: only `mem` differs; the destination holds the source bytes as they were before; the rest of
`Mem` is as it was. -/
theorem State.dma_prefix (s : State) (v : Byte) (n : Nat) (hn : n ≤ 160) :
    ∃ m, (List.range n).foldl (dmaByte (cat v 0x00)) s = { s with mem := m }
      ∧ (∀ i, i < n → m.read (0xFE00 + i) = s.read8 (cat v 0x00 + BitVec.ofNat 16 i))
      ∧ ∀ k, (k < 0xFE00 ∨ 0xFE00 + n ≤ k) → m.read k = s.mem.read k := by
  induction n with
  | zero => exact ⟨s.mem, rfl, fun i hi => absurd hi (by omega), fun k _ => rfl⟩
  | succ n ih =>
    obtain ⟨m, hm, hd, hk⟩ := ih (by omega)
    have hsrc : ∀ i, i < 160 → (cat v 0x00 + BitVec.ofNat 16 i).toNat = 256 * v.toNat + i := by
      intro i hi
      have := v.isLt
      rw [BitVec.toNat_add, toNat_cat, BitVec.toNat_ofNat]
      simp; omega
    have hread : ({ s with mem := m } : State).read8 (cat v 0x00 + BitVec.ofNat 16 n) = s.read8 (cat v 0x00 + BitVec.ofNat 16 n) := by
      have ha := hsrc n (by omega)
      by_cases h1 : (cat v 0x00 + BitVec.ofNat 16 n).toNat < 0x8000
      · rw [State.read8_low _ h1, State.read8_low _ h1]
      by_cases h2 : 0xFEA0 ≤ (cat v 0x00 + BitVec.ofNat 16 n).toNat ∧ (cat v 0x00 + BitVec.ofNat 16 n).toNat < 0xFF00
      · rw [State.read8_unusable _ h2.1 h2.2, State.read8_unusable _ h2.1 h2.2]
      · rw [State.read8_high _ (by omega) h2, State.read8_high _ (by omega) h2]
        refine hk _ ?_
        simp only [canonical]
        split <;> omega
    refine ⟨m.write (0xFE00 + n) (s.read8 (cat v 0x00 + BitVec.ofNat 16 n)), ?_, ?_, ?_⟩
    · rw [List.range_succ, List.foldl_append, hm]
      simp only [List.foldl_cons, List.foldl_nil, dmaByte, hread]
      rfl
    · intro i hi
      rw [Memory.read_write]
      split
      · rw [show i = n by omega]
      · exact hd i (by omega)
    · intro k hk'
      rw [Memory.read_write, if_neg (by omega)]
      exact hk k (by omega)

/-- The whole copy. -/
theorem State.dma_spec (s : State) (v : Byte) :
    ∃ m, s.dma v = { s with mem := m }
      ∧ (∀ i, i < 160 → m.read (0xFE00 + i) = s.read8 (cat v 0x00 + BitVec.ofNat 16 i))
      ∧ ∀ k, (k < 0xFE00 ∨ 0xFEA0 ≤ k) → m.read k = s.mem.read k := by
  obtain ⟨m, h1, h2, h3⟩ := State.dma_prefix s v 160 (by omega)
  exact ⟨m, h1, h2, fun k hk => h3 k (by omega)⟩

/-! ### The five things a write can do -/

theorem State.write8_ignored (s : State) {a : Word} (v : Byte)
    (h : a.toNat < 0x8000 ∨ (0xFEA0 ≤ a.toNat ∧ a.toNat < 0xFF00)) : s.write8 a v = s := by
  simp only [State.write8, regionOf]
  by_cases h1 : a.toNat < 0x0100
  · cases s.boot <;> simp [h1]
  · by_cases h2 : a.toNat < 0x8000
    · simp [h1, h2]
    · repeat rw [if_neg (by omega)]
      rw [if_pos (by omega)]

theorem State.write8_io (s : State) {a : Word} (v : Byte) (h1 : 0xFF00 ≤ a.toNat) (h2 : a.toNat < 0xFF80) :
    s.write8 a v = s.writeIo a.toNat v := by
  simp only [State.write8, regionOf]
  repeat rw [if_neg (by omega)]
  rw [if_pos h2]

theorem State.write8_storing (s : State) {a : Word} (v : Byte) (h : storing a = true) :
    s.write8 a v = s.setDirect (canonical a) v := by
  have := a.isLt
  simp only [storing, Bool.and_eq_true, decide_eq_true_eq, bne_iff_ne, ne_eq] at h
  obtain ⟨⟨⟨h, n1⟩, n2⟩, n3⟩ := h
  have m1 : a.toNat ≠ 0xFF04 := fun e => n1 (BitVec.eq_of_toNat_eq e)
  have m2 : a.toNat ≠ 0xFF46 := fun e => n2 (BitVec.eq_of_toNat_eq e)
  have m3 : a.toNat ≠ 0xFF50 := fun e => n3 (BitVec.eq_of_toNat_eq e)
  by_cases hio : 0xFF00 ≤ a.toNat ∧ a.toNat < 0xFF80
  · rw [State.write8_io s v hio.1 hio.2]
    simp only [State.writeIo, canonical]
    rw [if_neg m1, if_neg m2, if_neg m3, if_neg (by omega)]
  · simp only [State.write8, regionOf, canonical]
    rw [if_neg (by omega), if_neg (by omega)]
    by_cases h3 : a.toNat < 0xA000
    · rw [if_pos h3, if_neg (by omega)]
    by_cases h4 : a.toNat < 0xC000
    · rw [if_neg h3, if_pos h4, if_neg (by omega)]
    by_cases h5 : a.toNat < 0xE000
    · rw [if_neg h3, if_neg h4, if_pos h5, if_neg (by omega)]
    by_cases h6 : a.toNat < 0xFE00
    · rw [if_neg h3, if_neg h4, if_neg h5, if_pos h6, if_pos (by omega)]
    rw [if_neg h3, if_neg h4, if_neg h5, if_neg h6, if_neg (c := 0xE000 ≤ a.toNat ∧ a.toNat < 0xFE00) (by omega)]
    by_cases h7 : a.toNat < 0xFEA0
    · rw [if_pos h7]
    rw [if_neg h7, if_neg (by omega), if_neg (by omega)]
    by_cases h9 : a.toNat < 0xFFFF
    · rw [if_pos h9]
    · rw [if_neg h9]

theorem State.write8_div (s : State) (v : Byte) : s.write8 0xFF04 v = s.setDirect DIV 0x00 := rfl

theorem State.write8_dma (s : State) (v : Byte) : s.write8 0xFF46 v = s.dma v := rfl

theorem State.write8_boot (s : State) (v : Byte) : s.write8 0xFF50 v = { s with boot := false } := rfl

/-- Everything a bus write can do. -/
theorem State.write8_cases (s : State) (a : Word) (v : Byte) :
    (storing a = true ∧ s.write8 a v = s.setDirect (canonical a) v)
    ∨ (a = 0xFF04 ∧ s.write8 a v = s.setDirect 0xFF04 0x00)
    ∨ (a = 0xFF46 ∧ s.write8 a v = s.dma v)
    ∨ (a = 0xFF50 ∧ s.write8 a v = { s with boot := false })
    ∨ ((a.toNat < 0x8000 ∨ (0xFEA0 ≤ a.toNat ∧ a.toNat < 0xFF00)) ∧ s.write8 a v = s) := by
  by_cases h1 : a = 0xFF04
  · subst h1; exact .inr (.inl ⟨rfl, rfl⟩)
  by_cases h2 : a = 0xFF46
  · subst h2; exact .inr (.inr (.inl ⟨rfl, rfl⟩))
  by_cases h3 : a = 0xFF50
  · subst h3; exact .inr (.inr (.inr (.inl ⟨rfl, rfl⟩)))
  by_cases h4 : a.toNat < 0x8000 ∨ (0xFEA0 ≤ a.toNat ∧ a.toNat < 0xFF00)
  · exact .inr (.inr (.inr (.inr ⟨h4, State.write8_ignored s v h4⟩)))
  · have hs : storing a = true := by
      simp only [storing, Bool.and_eq_true, decide_eq_true_eq, bne_iff_ne, ne_eq]
      exact ⟨⟨⟨by omega, h1⟩, h2⟩, h3⟩
    exact .inl ⟨hs, State.write8_storing s v hs⟩

/-! ### What a write leaves as it was -/

/-- A bus write changes memory and `boot` only. -/
theorem State.write8_eq (s : State) (a : Word) (v : Byte) :
    s.write8 a v = { s with mem := (s.write8 a v).mem, boot := (s.write8 a v).boot } := by
  rcases State.write8_cases s a v with ⟨_, h⟩ | ⟨_, h⟩ | ⟨_, h⟩ | ⟨_, h⟩ | ⟨_, h⟩
  · rw [h]; rfl
  · rw [h]; rfl
  · obtain ⟨m, hm, _⟩ := State.dma_spec s v
    rw [h, hm]
  · rw [h]
  · rw [h]

theorem State.write16_eq (s : State) (a w : Word) :
    s.write16 a w = { s with mem := (s.write16 a w).mem, boot := (s.write16 a w).boot } := by
  simp only [State.write16]
  rw [State.write8_eq (s.write8 a (lo w)) (a + 1) (hi w), State.write8_eq s a (lo w)]

@[simp] theorem State.write8_a (s : State) (k : Word) (v : Byte) : (s.write8 k v).a = s.a := by rw [State.write8_eq]
@[simp] theorem State.write8_b (s : State) (k : Word) (v : Byte) : (s.write8 k v).b = s.b := by rw [State.write8_eq]
@[simp] theorem State.write8_c (s : State) (k : Word) (v : Byte) : (s.write8 k v).c = s.c := by rw [State.write8_eq]
@[simp] theorem State.write8_d (s : State) (k : Word) (v : Byte) : (s.write8 k v).d = s.d := by rw [State.write8_eq]
@[simp] theorem State.write8_e (s : State) (k : Word) (v : Byte) : (s.write8 k v).e = s.e := by rw [State.write8_eq]
@[simp] theorem State.write8_h (s : State) (k : Word) (v : Byte) : (s.write8 k v).h = s.h := by rw [State.write8_eq]
@[simp] theorem State.write8_l (s : State) (k : Word) (v : Byte) : (s.write8 k v).l = s.l := by rw [State.write8_eq]
@[simp] theorem State.write8_fZ (s : State) (k : Word) (v : Byte) : (s.write8 k v).fZ = s.fZ := by rw [State.write8_eq]
@[simp] theorem State.write8_fN (s : State) (k : Word) (v : Byte) : (s.write8 k v).fN = s.fN := by rw [State.write8_eq]
@[simp] theorem State.write8_fH (s : State) (k : Word) (v : Byte) : (s.write8 k v).fH = s.fH := by rw [State.write8_eq]
@[simp] theorem State.write8_fC (s : State) (k : Word) (v : Byte) : (s.write8 k v).fC = s.fC := by rw [State.write8_eq]
@[simp] theorem State.write8_sp (s : State) (k : Word) (v : Byte) : (s.write8 k v).sp = s.sp := by rw [State.write8_eq]
@[simp] theorem State.write8_pc (s : State) (k : Word) (v : Byte) : (s.write8 k v).pc = s.pc := by rw [State.write8_eq]
@[simp] theorem State.write8_ime (s : State) (k : Word) (v : Byte) : (s.write8 k v).ime = s.ime := by rw [State.write8_eq]
@[simp] theorem State.write8_halted (s : State) (k : Word) (v : Byte) : (s.write8 k v).halted = s.halted := by rw [State.write8_eq]
@[simp] theorem State.write8_stopped (s : State) (k : Word) (v : Byte) : (s.write8 k v).stopped = s.stopped := by rw [State.write8_eq]
@[simp] theorem State.write8_faulted (s : State) (k : Word) (v : Byte) : (s.write8 k v).faulted = s.faulted := by rw [State.write8_eq]
@[simp] theorem State.write8_bios (s : State) (k : Word) (v : Byte) : (s.write8 k v).bios = s.bios := by rw [State.write8_eq]
@[simp] theorem State.write8_rom (s : State) (k : Word) (v : Byte) : (s.write8 k v).rom = s.rom := by rw [State.write8_eq]
@[simp] theorem State.write8_budget (s : State) (k : Word) (v : Byte) : (s.write8 k v).budget = s.budget := by rw [State.write8_eq]
@[simp] theorem State.write8_fb (s : State) (k : Word) (v : Byte) : (s.write8 k v).fb = s.fb := by rw [State.write8_eq]
@[simp] theorem State.write8_cycles (s : State) (k : Word) (v : Byte) : (s.write8 k v).cycles = s.cycles := by rw [State.write8_eq]
@[simp] theorem State.write16_a (s : State) (k w : Word) : (s.write16 k w).a = s.a := by rw [State.write16_eq]
@[simp] theorem State.write16_b (s : State) (k w : Word) : (s.write16 k w).b = s.b := by rw [State.write16_eq]
@[simp] theorem State.write16_c (s : State) (k w : Word) : (s.write16 k w).c = s.c := by rw [State.write16_eq]
@[simp] theorem State.write16_d (s : State) (k w : Word) : (s.write16 k w).d = s.d := by rw [State.write16_eq]
@[simp] theorem State.write16_e (s : State) (k w : Word) : (s.write16 k w).e = s.e := by rw [State.write16_eq]
@[simp] theorem State.write16_h (s : State) (k w : Word) : (s.write16 k w).h = s.h := by rw [State.write16_eq]
@[simp] theorem State.write16_l (s : State) (k w : Word) : (s.write16 k w).l = s.l := by rw [State.write16_eq]
@[simp] theorem State.write16_fZ (s : State) (k w : Word) : (s.write16 k w).fZ = s.fZ := by rw [State.write16_eq]
@[simp] theorem State.write16_fN (s : State) (k w : Word) : (s.write16 k w).fN = s.fN := by rw [State.write16_eq]
@[simp] theorem State.write16_fH (s : State) (k w : Word) : (s.write16 k w).fH = s.fH := by rw [State.write16_eq]
@[simp] theorem State.write16_fC (s : State) (k w : Word) : (s.write16 k w).fC = s.fC := by rw [State.write16_eq]
@[simp] theorem State.write16_sp (s : State) (k w : Word) : (s.write16 k w).sp = s.sp := by rw [State.write16_eq]
@[simp] theorem State.write16_pc (s : State) (k w : Word) : (s.write16 k w).pc = s.pc := by rw [State.write16_eq]
@[simp] theorem State.write16_ime (s : State) (k w : Word) : (s.write16 k w).ime = s.ime := by rw [State.write16_eq]
@[simp] theorem State.write16_halted (s : State) (k w : Word) : (s.write16 k w).halted = s.halted := by rw [State.write16_eq]
@[simp] theorem State.write16_stopped (s : State) (k w : Word) : (s.write16 k w).stopped = s.stopped := by rw [State.write16_eq]
@[simp] theorem State.write16_faulted (s : State) (k w : Word) : (s.write16 k w).faulted = s.faulted := by rw [State.write16_eq]
@[simp] theorem State.write16_bios (s : State) (k w : Word) : (s.write16 k w).bios = s.bios := by rw [State.write16_eq]
@[simp] theorem State.write16_rom (s : State) (k w : Word) : (s.write16 k w).rom = s.rom := by rw [State.write16_eq]
@[simp] theorem State.write16_budget (s : State) (k w : Word) : (s.write16 k w).budget = s.budget := by rw [State.write16_eq]
@[simp] theorem State.write16_fb (s : State) (k w : Word) : (s.write16 k w).fb = s.fb := by rw [State.write16_eq]
@[simp] theorem State.write16_cycles (s : State) (k w : Word) : (s.write16 k w).cycles = s.cycles := by rw [State.write16_eq]

/-- Nothing sets `boot`. -/
theorem State.write8_boot_of (s : State) (a : Word) (v : Byte) (h : (s.write8 a v).boot = true) : s.boot = true := by
  rcases State.write8_cases s a v with ⟨_, e⟩ | ⟨_, e⟩ | ⟨_, e⟩ | ⟨_, e⟩ | ⟨_, e⟩
  · rw [e] at h; exact h
  · rw [e] at h; exact h
  · obtain ⟨m, hm, _⟩ := State.dma_spec s v
    rw [e, hm] at h; exact h
  · rw [e] at h; cases h
  · rw [e] at h; exact h

/-- No byte reads differently after a one-byte write but those `reached` names. -/
theorem State.sameOutside_write8 (s : State) (addr : Word) (v : Byte) : s.SameOutside (s.write8 addr v) addr := by
  intro a ha
  rcases State.write8_cases s addr v with ⟨hs, e⟩ | ⟨rfl, e⟩ | ⟨rfl, e⟩ | ⟨rfl, e⟩ | ⟨_, e⟩
  · simp only [reached, hs, if_true, decide_eq_false_iff_not] at ha
    rw [e]
    by_cases h1 : a.toNat < 0x8000
    · rw [State.read8_low _ h1, State.read8_low _ h1]; rfl
    by_cases h2 : 0xFEA0 ≤ a.toNat ∧ a.toNat < 0xFF00
    · rw [State.read8_unusable _ h2.1 h2.2, State.read8_unusable _ h2.1 h2.2]
    · rw [State.read8_high _ (by omega) h2, State.read8_high _ (by omega) h2, State.setDirect_mem, Memory.read_write_ne _ _ ha]
  · have ha : a ≠ 0xFF04 := by simpa [reached, storing] using ha
    have hn : a.toNat ≠ 0xFF04 := fun h => ha (BitVec.eq_of_toNat_eq h)
    rw [e]
    by_cases h1 : a.toNat < 0x8000
    · rw [State.read8_low _ h1, State.read8_low _ h1]; rfl
    by_cases h2 : 0xFEA0 ≤ a.toNat ∧ a.toNat < 0xFF00
    · rw [State.read8_unusable _ h2.1 h2.2, State.read8_unusable _ h2.1 h2.2]
    · rw [State.read8_high _ (by omega) h2, State.read8_high _ (by omega) h2, State.setDirect_mem, Memory.read_write_ne]
      simp only [canonical]; split <;> omega
  · have ha : ¬(0xFE00 ≤ a.toNat ∧ a.toNat < 0xFEA0) := by
      simpa [reached, storing] using ha
    obtain ⟨m, hm, _, hk⟩ := State.dma_spec s v
    rw [e, hm]
    by_cases h1 : a.toNat < 0x8000
    · rw [State.read8_low _ h1, State.read8_low _ h1]
    by_cases h2 : 0xFEA0 ≤ a.toNat ∧ a.toNat < 0xFF00
    · rw [State.read8_unusable _ h2.1 h2.2, State.read8_unusable _ h2.1 h2.2]
    · rw [State.read8_high _ (by omega) h2, State.read8_high _ (by omega) h2]
      refine hk _ ?_
      simp only [canonical]; split <;> omega
  · have ha : ¬ a.toNat < 0x0100 := by
      simpa [reached, storing] using ha
    rw [e]
    by_cases h1 : a.toNat < 0x8000
    · rw [State.read8_low _ h1, State.read8_low _ h1, if_neg (by omega), if_neg (by omega)]
    by_cases h2 : 0xFEA0 ≤ a.toNat ∧ a.toNat < 0xFF00
    · rw [State.read8_unusable _ h2.1 h2.2, State.read8_unusable _ h2.1 h2.2]
    · rw [State.read8_high _ (by omega) h2, State.read8_high _ (by omega) h2]
  · rw [e]

/-- The same for a two-byte write. -/
theorem State.sameOutside_write16 (s : State) (addr w : Word) : s.SameOutside16 (s.write16 addr w) addr := by
  intro a ha
  simp only [reached16, Bool.or_eq_false_iff] at ha
  rw [State.write16, State.sameOutside_write8 _ _ _ a ha.2, State.sameOutside_write8 _ _ _ a ha.1]

/-- A stored byte reads back, at its own address and at every other name of the same byte. -/
theorem State.read8_write8_storing (s : State) {a k : Word} (v : Byte) (h : storing a = true) (hk : canonical k = canonical a)
    (h1 : 0x8000 ≤ k.toNat) (h2 : ¬(0xFEA0 ≤ k.toNat ∧ k.toNat < 0xFF00)) : (s.write8 a v).read8 k = v := by
  rw [State.write8_storing s v h, State.read8_high _ h1 h2, hk]
  simp

/-! ### The invariant -/

theorem State.Inv.congr {s t : State} (h : s.Inv) (hm : t.mem = s.mem) (hb : t.bios = s.bios) (hr : t.rom = s.rom)
    (hg : t.budget = s.budget) (hf : t.fb = s.fb) (hx : t.faulted = s.faulted) : t.Inv :=
  ⟨hm ▸ h.mem, hm ▸ h.unwritten, hb ▸ h.bios, hr ▸ h.rom, hg ▸ h.budget, hf ▸ h.fb, hx ▸ h.fault⟩

theorem State.Inv.setDirect {s : State} (h : s.Inv) {a : Nat} (v : Byte) (ha : a < 65536) (hn : neverWritten a = false) :
    (s.setDirect a v).Inv := by
  refine ⟨Memory.wf_write a v h.mem ha, ?_, h.bios, h.rom, h.budget, h.fb, h.fault⟩
  have hu := h.unwritten
  rw [List.all_eq_true] at hu ⊢
  intro x hx
  rcases Memory.mem_write hx with e | hx
  · rw [e, hn]; rfl
  · exact hu x hx

theorem State.Inv.dma {s : State} (h : s.Inv) (v : Byte) : (s.dma v).Inv := by
  have step : ∀ (l : List Nat) (s : State), (∀ i ∈ l, i < 160) → s.Inv → (l.foldl (dmaByte (cat v 0x00)) s).Inv := by
    intro l
    induction l with
    | nil => intro s _ h; exact h
    | cons i l ih =>
      intro s hl h
      have hi : i < 160 := hl i (by simp)
      refine ih _ (fun j hj => hl j (by simp [hj])) (h.setDirect _ (by omega) ?_)
      simp [neverWritten, DMA, BOOTOFF]; omega
  exact step _ s (fun i hi => List.mem_range.1 hi) h

theorem canonical_writable {a : Word} (h : storing a = true) : neverWritten (canonical a) = false ∧ canonical a < 65536 := by
  have := a.isLt
  simp only [storing, Bool.and_eq_true, decide_eq_true_eq, bne_iff_ne, ne_eq] at h
  obtain ⟨⟨⟨h, n1⟩, n2⟩, n3⟩ := h
  have m2 : a.toNat ≠ 0xFF46 := fun e => n2 (BitVec.eq_of_toNat_eq e)
  have m3 : a.toNat ≠ 0xFF50 := fun e => n3 (BitVec.eq_of_toNat_eq e)
  simp only [neverWritten, canonical, DMA, BOOTOFF]
  split
  · simp; omega
  · simp; omega

theorem State.Inv.write8 {s : State} (h : s.Inv) (a : Word) (v : Byte) : (s.write8 a v).Inv := by
  rcases State.write8_cases s a v with ⟨hs, e⟩ | ⟨_, e⟩ | ⟨_, e⟩ | ⟨_, e⟩ | ⟨_, e⟩
  · rw [e]; exact h.setDirect v (canonical_writable hs).2 (canonical_writable hs).1
  · rw [e]; exact h.setDirect _ (by decide) (by decide)
  · rw [e]; exact h.dma v
  · rw [e]; exact h.congr rfl rfl rfl rfl rfl rfl
  · rw [e]; exact h

theorem State.Inv.write16 {s : State} (h : s.Inv) (a w : Word) : (s.write16 a w).Inv := (h.write8 a (lo w)).write8 (a + 1) (hi w)

end Sys2Proof.Machine
end

