-- ==== Sys2Proof/Laws/Decode.lean ====
section
/-!
SUPPORT. The decoder on the beginnings a list of bytes can have.
-/

namespace Sys2Proof

open Machine

/-- After the prefix, the second table. -/
theorem decode_prefixed (op2 : Byte) (rest : List Byte) : decode (0xCB :: op2 :: rest) = .ok (decodeCB op2, rest) := by
  have h : decodeBytes 0xCB op2 ((op2 :: rest).getD 1 0x00) = (decodeCB op2, 2) := by simp [decodeBytes]
  simp only [decode, List.getD_cons_zero, h]
  simp

/-- The bytes of a word operand are joined, low byte first. -/
theorem decodeBytes_word {b0 : Byte} (h : b0 ≠ 0xCB) (w : Word) : decodeBytes b0 (lo w) (hi w) = decodePrimary b0 (lo w) w := by
  simp only [decodeBytes, if_neg h, cat_hi_lo]

/-- Three bytes are enough for every instruction. -/
theorem decode_three (b0 b1 b2 : Byte) (rest : List Byte) (h : (decodeBytes b0 b1 b2).2 ≤ 3) :
    decode (b0 :: b1 :: b2 :: rest) = .ok ((decodeBytes b0 b1 b2).1, (b0 :: b1 :: b2 :: rest).drop (decodeBytes b0 b1 b2).2) := by
  simp only [decode, List.getD_cons_zero, List.getD_cons_succ]
  rw [if_pos (by simp only [List.length_cons]; omega)]

end Sys2Proof
end

