-- ==== Sys2Proof/Laws/Dispatch.lean ====
section
/-!
SUPPORT. `exec` on a form is the shared meaning of the form, with the opcode that the fields give (R105, R111).
-/

namespace Sys2Proof.Machine

theorem exec_ldRegReg (dst src : Reg8) (s : State) :
    exec (Form.ldRegReg dst src) s = copyReg (0x40 + 8 * dst.field + src.field) dst src s := by
  cases dst <;> cases src <;> rfl

theorem exec_ldRegMem (dst : Reg8) (s : State) : exec (Form.ldRegMem dst) s = loadReg (0x46 + 8 * dst.field) dst s := by
  cases dst <;> rfl

theorem exec_ldMemReg (src : Reg8) (s : State) : exec (Form.ldMemReg src) s = storeReg (0x70 + src.field) src s := by
  cases src <;> rfl

theorem exec_ldRegImm (dst : Reg8) (n : Byte) (s : State) :
    exec (Form.ldRegImm dst n) s = loadImm (0x06 + 8 * dst.field) dst n s := by
  cases dst <;> rfl

theorem exec_ldPairImm (p : Pair) (w : Word) (s : State) :
    exec (Form.ldPairImm p w) s = loadPair (0x01 + 16 * p.field) p w s := by
  cases p <;> rfl

theorem exec_push (q : StackPair) (s : State) : exec (Form.push q) s = pushPair (0xC5 + 16 * q.field) q s := by
  cases q <;> rfl

theorem exec_pop (q : StackPair) (s : State) : exec (Form.pop q) s = popPair (0xC1 + 16 * q.field) q s := by
  cases q <;> rfl

theorem exec_aluOperand (o : Alu) (x : Operand8) (s : State) :
    exec (Form.aluOperand o x) s = accumulate (0x80 + 8 * o.field + x.field) o (s.operand x) s := by
  rcases x with r | _
  · cases o <;> cases r <;> rfl
  · cases o <;> rfl

theorem exec_aluImm (o : Alu) (n : Byte) (s : State) :
    exec (Form.aluImm o n) s = accumulate (0xC6 + 8 * o.field) o n s := by
  cases o <;> rfl

theorem exec_inc8 (x : Operand8) (s : State) : exec (Form.inc8 x) s = increment (0x04 + 8 * x.field) x s := by
  rcases x with r | _
  · cases r <;> rfl
  · rfl

theorem exec_dec8 (x : Operand8) (s : State) : exec (Form.dec8 x) s = decrement (0x05 + 8 * x.field) x s := by
  rcases x with r | _
  · cases r <;> rfl
  · rfl

theorem exec_addHL (p : Pair) (s : State) : exec (Form.addHL p) s = addToHL (0x09 + 16 * p.field) p s := by
  cases p <;> rfl

theorem exec_inc16 (p : Pair) (s : State) : exec (Form.inc16 p) s = stepPair (0x03 + 16 * p.field) p 1 s := by
  cases p <;> rfl

theorem exec_dec16 (p : Pair) (s : State) : exec (Form.dec16 p) s = stepPair (0x0B + 16 * p.field) p (-1) s := by
  cases p <;> rfl

theorem exec_rot (o : Rot) (x : Operand8) (s : State) : exec (Form.rot o x) s = rotate (8 * o.field + x.field) o x s := by
  rcases x with r | _
  · cases o <;> cases r <;> rfl
  · cases o <;> rfl

theorem exec_bit (b : Fin 8) (x : Operand8) (s : State) :
    exec (Form.bit b x) s = testBit (0x40 + 8 * BitVec.ofNat 8 b.val + x.field) b x s := by
  rcases x with r | _
  · fin_cases b <;> cases r <;> rfl
  · fin_cases b <;> rfl

theorem exec_res (b : Fin 8) (x : Operand8) (s : State) :
    exec (Form.res b x) s = resetBit (0x80 + 8 * BitVec.ofNat 8 b.val + x.field) b x s := by
  rcases x with r | _
  · fin_cases b <;> cases r <;> rfl
  · fin_cases b <;> rfl

theorem exec_set (b : Fin 8) (x : Operand8) (s : State) :
    exec (Form.set b x) s = setBit (0xC0 + 8 * BitVec.ofNat 8 b.val + x.field) b x s := by
  rcases x with r | _
  · fin_cases b <;> cases r <;> rfl
  · fin_cases b <;> rfl

theorem exec_jpCond (cc : Cond) (w : Word) (s : State) : exec (Form.jpCond cc w) s = jumpIf (0xC2 + 8 * cc.field) cc w s := by
  cases cc <;> rfl

theorem exec_jrCond (cc : Cond) (e : Byte) (s : State) :
    exec (Form.jrCond cc e) s = jumpIf (0x20 + 8 * cc.field) cc (s.relative e) s := by
  cases cc <;> rfl

theorem exec_callCond (cc : Cond) (w : Word) (s : State) :
    exec (Form.callCond cc w) s = callIf (0xC4 + 8 * cc.field) cc w s := by
  cases cc <;> rfl

theorem exec_retCond (cc : Cond) (s : State) : exec (Form.retCond cc) s = returnIf (0xC0 + 8 * cc.field) cc s := by
  cases cc <;> rfl

theorem exec_rst (y : Fin 8) (s : State) :
    exec (Form.rst y) s = finish (0xC7 + 8 * BitVec.ofNat 8 y.val) false true (s.call (BitVec.ofNat 16 (8 * y.val))) := by
  fin_cases y <;> rfl

/-- An illegal opcode raises the decode fault. -/
theorem exec_illegal {i : Instr} {op : Byte} (h : i.illegalOpcode = some op) (s : State) : exec i s = .fault (s.decodeFault op) := by
  unfold Instr.illegalOpcode at h
  split at h <;> first | (cases h; rfl) | exact absurd h (by simp)

end Sys2Proof.Machine
end

