-- ==== Sys2Proof/Laws/Forms.lean ====
section
/-!
SUPPORT. The case split over instructions by their form, said once: what holds of every form holds of every instruction.
-/

namespace Sys2Proof

theorem Instr.form_cases {P : Instr → Prop}
    (hLdRegReg : ∀ (dst : Reg8) (src : Reg8), P (Form.ldRegReg dst src))
    (hLdRegMem : ∀ (dst : Reg8), P (Form.ldRegMem dst))
    (hLdMemReg : ∀ (src : Reg8), P (Form.ldMemReg src))
    (hLdRegImm : ∀ (dst : Reg8) (n : Byte), P (Form.ldRegImm dst n))
    (hLdPairImm : ∀ (p : Pair) (w : Word), P (Form.ldPairImm p w))
    (hPush : ∀ (q : StackPair), P (Form.push q))
    (hPop : ∀ (q : StackPair), P (Form.pop q))
    (hAluOperand : ∀ (o : Alu) (x : Operand8), P (Form.aluOperand o x))
    (hAluImm : ∀ (o : Alu) (n : Byte), P (Form.aluImm o n))
    (hInc8 : ∀ (x : Operand8), P (Form.inc8 x))
    (hDec8 : ∀ (x : Operand8), P (Form.dec8 x))
    (hAddHL : ∀ (p : Pair), P (Form.addHL p))
    (hInc16 : ∀ (p : Pair), P (Form.inc16 p))
    (hDec16 : ∀ (p : Pair), P (Form.dec16 p))
    (hRot : ∀ (o : Rot) (x : Operand8), P (Form.rot o x))
    (hBit : ∀ (b : Fin 8) (x : Operand8), P (Form.bit b x))
    (hRes : ∀ (b : Fin 8) (x : Operand8), P (Form.res b x))
    (hSet : ∀ (b : Fin 8) (x : Operand8), P (Form.set b x))
    (hJpCond : ∀ (cc : Cond) (w : Word), P (Form.jpCond cc w))
    (hJrCond : ∀ (cc : Cond) (e : Byte), P (Form.jrCond cc e))
    (hCallCond : ∀ (cc : Cond) (w : Word), P (Form.callCond cc w))
    (hRetCond : ∀ (cc : Cond), P (Form.retCond cc))
    (hRst : ∀ (y : Fin 8), P (Form.rst y))
    (hIllegal : ∀ (i : Instr) (op : Byte), i.illegalOpcode = some op → P i)
    (h_ld_ma16_SP : ∀ w : Word, P (.ld_ma16_SP w))
    (h_stop : ∀ pad : Byte, P (.stop pad))
    (h_jr_e8 : ∀ e : Byte, P (.jr_e8 e))
    (h_ld_mHL_d8 : ∀ n : Byte, P (.ld_mHL_d8 n))
    (h_jp_a16 : ∀ w : Word, P (.jp_a16 w))
    (h_prefix_CB : ∀ op2 : Byte, P (.prefix_CB op2))
    (h_call_a16 : ∀ w : Word, P (.call_a16 w))
    (h_ldh_ma8_A : ∀ n : Byte, P (.ldh_ma8_A n))
    (h_add_SP_e8 : ∀ e : Byte, P (.add_SP_e8 e))
    (h_ld_ma16_A : ∀ w : Word, P (.ld_ma16_A w))
    (h_ldh_A_ma8 : ∀ n : Byte, P (.ldh_A_ma8 n))
    (h_ld_HL_SPe8 : ∀ e : Byte, P (.ld_HL_SPe8 e))
    (h_ld_A_ma16 : ∀ w : Word, P (.ld_A_ma16 w))
    (h_nop : P .nop)
    (h_ld_mBC_A : P .ld_mBC_A)
    (h_rlca : P .rlca)
    (h_ld_A_mBC : P .ld_A_mBC)
    (h_rrca : P .rrca)
    (h_ld_mDE_A : P .ld_mDE_A)
    (h_rla : P .rla)
    (h_ld_A_mDE : P .ld_A_mDE)
    (h_rra : P .rra)
    (h_ld_mHLinc_A : P .ld_mHLinc_A)
    (h_daa : P .daa)
    (h_ld_A_mHLinc : P .ld_A_mHLinc)
    (h_cpl : P .cpl)
    (h_ld_mHLdec_A : P .ld_mHLdec_A)
    (h_scf : P .scf)
    (h_ld_A_mHLdec : P .ld_A_mHLdec)
    (h_ccf : P .ccf)
    (h_halt : P .halt)
    (h_ret : P .ret)
    (h_reti : P .reti)
    (h_ld_mC_A : P .ld_mC_A)
    (h_jp_HL : P .jp_HL)
    (h_ld_A_mC : P .ld_A_mC)
    (h_di : P .di)
    (h_ld_SP_HL : P .ld_SP_HL)
    (h_ei : P .ei)
    (i : Instr) : P i := by
  cases i with
  | ld_BC_d16 w => exact hLdPairImm .bc w
  | ld_B_d8 n => exact hLdRegImm .b n
  | ld_ma16_SP w => exact h_ld_ma16_SP w
  | ld_C_d8 n => exact hLdRegImm .c n
  | stop pad => exact h_stop pad
  | ld_DE_d16 w => exact hLdPairImm .de w
  | ld_D_d8 n => exact hLdRegImm .d n
  | jr_e8 e => exact h_jr_e8 e
  | ld_E_d8 n => exact hLdRegImm .e n
  | jr_NZ_e8 e => exact hJrCond .nz e
  | ld_HL_d16 w => exact hLdPairImm .hl w
  | ld_H_d8 n => exact hLdRegImm .h n
  | jr_Z_e8 e => exact hJrCond .z e
  | ld_L_d8 n => exact hLdRegImm .l n
  | jr_NC_e8 e => exact hJrCond .nc e
  | ld_SP_d16 w => exact hLdPairImm .sp w
  | ld_mHL_d8 n => exact h_ld_mHL_d8 n
  | jr_C_e8 e => exact hJrCond .c e
  | ld_A_d8 n => exact hLdRegImm .a n
  | jp_NZ_a16 w => exact hJpCond .nz w
  | jp_a16 w => exact h_jp_a16 w
  | call_NZ_a16 w => exact hCallCond .nz w
  | add_A_d8 n => exact hAluImm .add n
  | jp_Z_a16 w => exact hJpCond .z w
  | prefix_CB op2 => exact h_prefix_CB op2
  | call_Z_a16 w => exact hCallCond .z w
  | call_a16 w => exact h_call_a16 w
  | adc_A_d8 n => exact hAluImm .adc n
  | jp_NC_a16 w => exact hJpCond .nc w
  | call_NC_a16 w => exact hCallCond .nc w
  | sub_d8 n => exact hAluImm .sub n
  | jp_C_a16 w => exact hJpCond .c w
  | call_C_a16 w => exact hCallCond .c w
  | sbc_A_d8 n => exact hAluImm .sbc n
  | ldh_ma8_A n => exact h_ldh_ma8_A n
  | and_d8 n => exact hAluImm .and n
  | add_SP_e8 e => exact h_add_SP_e8 e
  | ld_ma16_A w => exact h_ld_ma16_A w
  | xor_d8 n => exact hAluImm .xor n
  | ldh_A_ma8 n => exact h_ldh_A_ma8 n
  | or_d8 n => exact hAluImm .or n
  | ld_HL_SPe8 e => exact h_ld_HL_SPe8 e
  | ld_A_ma16 w => exact h_ld_A_ma16 w
  | cp_d8 n => exact hAluImm .cp n
  | nop => exact h_nop
  | ld_mBC_A => exact h_ld_mBC_A
  | inc_BC => exact hInc16 .bc
  | inc_B => exact hInc8 (.reg .b)
  | dec_B => exact hDec8 (.reg .b)
  | rlca => exact h_rlca
  | add_HL_BC => exact hAddHL .bc
  | ld_A_mBC => exact h_ld_A_mBC
  | dec_BC => exact hDec16 .bc
  | inc_C => exact hInc8 (.reg .c)
  | dec_C => exact hDec8 (.reg .c)
  | rrca => exact h_rrca
  | ld_mDE_A => exact h_ld_mDE_A
  | inc_DE => exact hInc16 .de
  | inc_D => exact hInc8 (.reg .d)
  | dec_D => exact hDec8 (.reg .d)
  | rla => exact h_rla
  | add_HL_DE => exact hAddHL .de
  | ld_A_mDE => exact h_ld_A_mDE
  | dec_DE => exact hDec16 .de
  | inc_E => exact hInc8 (.reg .e)
  | dec_E => exact hDec8 (.reg .e)
  | rra => exact h_rra
  | ld_mHLinc_A => exact h_ld_mHLinc_A
  | inc_HL => exact hInc16 .hl
  | inc_H => exact hInc8 (.reg .h)
  | dec_H => exact hDec8 (.reg .h)
  | daa => exact h_daa
  | add_HL_HL => exact hAddHL .hl
  | ld_A_mHLinc => exact h_ld_A_mHLinc
  | dec_HL => exact hDec16 .hl
  | inc_L => exact hInc8 (.reg .l)
  | dec_L => exact hDec8 (.reg .l)
  | cpl => exact h_cpl
  | ld_mHLdec_A => exact h_ld_mHLdec_A
  | inc_SP => exact hInc16 .sp
  | inc_mHL => exact hInc8 .memHL
  | dec_mHL => exact hDec8 .memHL
  | scf => exact h_scf
  | add_HL_SP => exact hAddHL .sp
  | ld_A_mHLdec => exact h_ld_A_mHLdec
  | dec_SP => exact hDec16 .sp
  | inc_A => exact hInc8 (.reg .a)
  | dec_A => exact hDec8 (.reg .a)
  | ccf => exact h_ccf
  | ld_B_B => exact hLdRegReg .b .b
  | ld_B_C => exact hLdRegReg .b .c
  | ld_B_D => exact hLdRegReg .b .d
  | ld_B_E => exact hLdRegReg .b .e
  | ld_B_H => exact hLdRegReg .b .h
  | ld_B_L => exact hLdRegReg .b .l
  | ld_B_mHL => exact hLdRegMem .b
  | ld_B_A => exact hLdRegReg .b .a
  | ld_C_B => exact hLdRegReg .c .b
  | ld_C_C => exact hLdRegReg .c .c
  | ld_C_D => exact hLdRegReg .c .d
  | ld_C_E => exact hLdRegReg .c .e
  | ld_C_H => exact hLdRegReg .c .h
  | ld_C_L => exact hLdRegReg .c .l
  | ld_C_mHL => exact hLdRegMem .c
  | ld_C_A => exact hLdRegReg .c .a
  | ld_D_B => exact hLdRegReg .d .b
  | ld_D_C => exact hLdRegReg .d .c
  | ld_D_D => exact hLdRegReg .d .d
  | ld_D_E => exact hLdRegReg .d .e
  | ld_D_H => exact hLdRegReg .d .h
  | ld_D_L => exact hLdRegReg .d .l
  | ld_D_mHL => exact hLdRegMem .d
  | ld_D_A => exact hLdRegReg .d .a
  | ld_E_B => exact hLdRegReg .e .b
  | ld_E_C => exact hLdRegReg .e .c
  | ld_E_D => exact hLdRegReg .e .d
  | ld_E_E => exact hLdRegReg .e .e
  | ld_E_H => exact hLdRegReg .e .h
  | ld_E_L => exact hLdRegReg .e .l
  | ld_E_mHL => exact hLdRegMem .e
  | ld_E_A => exact hLdRegReg .e .a
  | ld_H_B => exact hLdRegReg .h .b
  | ld_H_C => exact hLdRegReg .h .c
  | ld_H_D => exact hLdRegReg .h .d
  | ld_H_E => exact hLdRegReg .h .e
  | ld_H_H => exact hLdRegReg .h .h
  | ld_H_L => exact hLdRegReg .h .l
  | ld_H_mHL => exact hLdRegMem .h
  | ld_H_A => exact hLdRegReg .h .a
  | ld_L_B => exact hLdRegReg .l .b
  | ld_L_C => exact hLdRegReg .l .c
  | ld_L_D => exact hLdRegReg .l .d
  | ld_L_E => exact hLdRegReg .l .e
  | ld_L_H => exact hLdRegReg .l .h
  | ld_L_L => exact hLdRegReg .l .l
  | ld_L_mHL => exact hLdRegMem .l
  | ld_L_A => exact hLdRegReg .l .a
  | ld_mHL_B => exact hLdMemReg .b
  | ld_mHL_C => exact hLdMemReg .c
  | ld_mHL_D => exact hLdMemReg .d
  | ld_mHL_E => exact hLdMemReg .e
  | ld_mHL_H => exact hLdMemReg .h
  | ld_mHL_L => exact hLdMemReg .l
  | halt => exact h_halt
  | ld_mHL_A => exact hLdMemReg .a
  | ld_A_B => exact hLdRegReg .a .b
  | ld_A_C => exact hLdRegReg .a .c
  | ld_A_D => exact hLdRegReg .a .d
  | ld_A_E => exact hLdRegReg .a .e
  | ld_A_H => exact hLdRegReg .a .h
  | ld_A_L => exact hLdRegReg .a .l
  | ld_A_mHL => exact hLdRegMem .a
  | ld_A_A => exact hLdRegReg .a .a
  | add_A_B => exact hAluOperand .add (.reg .b)
  | add_A_C => exact hAluOperand .add (.reg .c)
  | add_A_D => exact hAluOperand .add (.reg .d)
  | add_A_E => exact hAluOperand .add (.reg .e)
  | add_A_H => exact hAluOperand .add (.reg .h)
  | add_A_L => exact hAluOperand .add (.reg .l)
  | add_A_mHL => exact hAluOperand .add .memHL
  | add_A_A => exact hAluOperand .add (.reg .a)
  | adc_A_B => exact hAluOperand .adc (.reg .b)
  | adc_A_C => exact hAluOperand .adc (.reg .c)
  | adc_A_D => exact hAluOperand .adc (.reg .d)
  | adc_A_E => exact hAluOperand .adc (.reg .e)
  | adc_A_H => exact hAluOperand .adc (.reg .h)
  | adc_A_L => exact hAluOperand .adc (.reg .l)
  | adc_A_mHL => exact hAluOperand .adc .memHL
  | adc_A_A => exact hAluOperand .adc (.reg .a)
  | sub_B => exact hAluOperand .sub (.reg .b)
  | sub_C => exact hAluOperand .sub (.reg .c)
  | sub_D => exact hAluOperand .sub (.reg .d)
  | sub_E => exact hAluOperand .sub (.reg .e)
  | sub_H => exact hAluOperand .sub (.reg .h)
  | sub_L => exact hAluOperand .sub (.reg .l)
  | sub_mHL => exact hAluOperand .sub .memHL
  | sub_A => exact hAluOperand .sub (.reg .a)
  | sbc_A_B => exact hAluOperand .sbc (.reg .b)
  | sbc_A_C => exact hAluOperand .sbc (.reg .c)
  | sbc_A_D => exact hAluOperand .sbc (.reg .d)
  | sbc_A_E => exact hAluOperand .sbc (.reg .e)
  | sbc_A_H => exact hAluOperand .sbc (.reg .h)
  | sbc_A_L => exact hAluOperand .sbc (.reg .l)
  | sbc_A_mHL => exact hAluOperand .sbc .memHL
  | sbc_A_A => exact hAluOperand .sbc (.reg .a)
  | and_B => exact hAluOperand .and (.reg .b)
  | and_C => exact hAluOperand .and (.reg .c)
  | and_D => exact hAluOperand .and (.reg .d)
  | and_E => exact hAluOperand .and (.reg .e)
  | and_H => exact hAluOperand .and (.reg .h)
  | and_L => exact hAluOperand .and (.reg .l)
  | and_mHL => exact hAluOperand .and .memHL
  | and_A => exact hAluOperand .and (.reg .a)
  | xor_B => exact hAluOperand .xor (.reg .b)
  | xor_C => exact hAluOperand .xor (.reg .c)
  | xor_D => exact hAluOperand .xor (.reg .d)
  | xor_E => exact hAluOperand .xor (.reg .e)
  | xor_H => exact hAluOperand .xor (.reg .h)
  | xor_L => exact hAluOperand .xor (.reg .l)
  | xor_mHL => exact hAluOperand .xor .memHL
  | xor_A => exact hAluOperand .xor (.reg .a)
  | or_B => exact hAluOperand .or (.reg .b)
  | or_C => exact hAluOperand .or (.reg .c)
  | or_D => exact hAluOperand .or (.reg .d)
  | or_E => exact hAluOperand .or (.reg .e)
  | or_H => exact hAluOperand .or (.reg .h)
  | or_L => exact hAluOperand .or (.reg .l)
  | or_mHL => exact hAluOperand .or .memHL
  | or_A => exact hAluOperand .or (.reg .a)
  | cp_B => exact hAluOperand .cp (.reg .b)
  | cp_C => exact hAluOperand .cp (.reg .c)
  | cp_D => exact hAluOperand .cp (.reg .d)
  | cp_E => exact hAluOperand .cp (.reg .e)
  | cp_H => exact hAluOperand .cp (.reg .h)
  | cp_L => exact hAluOperand .cp (.reg .l)
  | cp_mHL => exact hAluOperand .cp .memHL
  | cp_A => exact hAluOperand .cp (.reg .a)
  | ret_NZ => exact hRetCond .nz
  | pop_BC => exact hPop .bc
  | push_BC => exact hPush .bc
  | rst_00 => exact hRst 0
  | ret_Z => exact hRetCond .z
  | ret => exact h_ret
  | rst_08 => exact hRst 1
  | ret_NC => exact hRetCond .nc
  | pop_DE => exact hPop .de
  | illegal_D3 => exact hIllegal _ _ rfl
  | push_DE => exact hPush .de
  | rst_10 => exact hRst 2
  | ret_C => exact hRetCond .c
  | reti => exact h_reti
  | illegal_DB => exact hIllegal _ _ rfl
  | illegal_DD => exact hIllegal _ _ rfl
  | rst_18 => exact hRst 3
  | pop_HL => exact hPop .hl
  | ld_mC_A => exact h_ld_mC_A
  | illegal_E3 => exact hIllegal _ _ rfl
  | illegal_E4 => exact hIllegal _ _ rfl
  | push_HL => exact hPush .hl
  | rst_20 => exact hRst 4
  | jp_HL => exact h_jp_HL
  | illegal_EB => exact hIllegal _ _ rfl
  | illegal_EC => exact hIllegal _ _ rfl
  | illegal_ED => exact hIllegal _ _ rfl
  | rst_28 => exact hRst 5
  | pop_AF => exact hPop .af
  | ld_A_mC => exact h_ld_A_mC
  | di => exact h_di
  | illegal_F4 => exact hIllegal _ _ rfl
  | push_AF => exact hPush .af
  | rst_30 => exact hRst 6
  | ld_SP_HL => exact h_ld_SP_HL
  | ei => exact h_ei
  | illegal_FC => exact hIllegal _ _ rfl
  | illegal_FD => exact hIllegal _ _ rfl
  | rst_38 => exact hRst 7
  | rlc_B => exact hRot .rlc (.reg .b)
  | rlc_C => exact hRot .rlc (.reg .c)
  | rlc_D => exact hRot .rlc (.reg .d)
  | rlc_E => exact hRot .rlc (.reg .e)
  | rlc_H => exact hRot .rlc (.reg .h)
  | rlc_L => exact hRot .rlc (.reg .l)
  | rlc_mHL => exact hRot .rlc .memHL
  | rlc_A => exact hRot .rlc (.reg .a)
  | rrc_B => exact hRot .rrc (.reg .b)
  | rrc_C => exact hRot .rrc (.reg .c)
  | rrc_D => exact hRot .rrc (.reg .d)
  | rrc_E => exact hRot .rrc (.reg .e)
  | rrc_H => exact hRot .rrc (.reg .h)
  | rrc_L => exact hRot .rrc (.reg .l)
  | rrc_mHL => exact hRot .rrc .memHL
  | rrc_A => exact hRot .rrc (.reg .a)
  | rl_B => exact hRot .rl (.reg .b)
  | rl_C => exact hRot .rl (.reg .c)
  | rl_D => exact hRot .rl (.reg .d)
  | rl_E => exact hRot .rl (.reg .e)
  | rl_H => exact hRot .rl (.reg .h)
  | rl_L => exact hRot .rl (.reg .l)
  | rl_mHL => exact hRot .rl .memHL
  | rl_A => exact hRot .rl (.reg .a)
  | rr_B => exact hRot .rr (.reg .b)
  | rr_C => exact hRot .rr (.reg .c)
  | rr_D => exact hRot .rr (.reg .d)
  | rr_E => exact hRot .rr (.reg .e)
  | rr_H => exact hRot .rr (.reg .h)
  | rr_L => exact hRot .rr (.reg .l)
  | rr_mHL => exact hRot .rr .memHL
  | rr_A => exact hRot .rr (.reg .a)
  | sla_B => exact hRot .sla (.reg .b)
  | sla_C => exact hRot .sla (.reg .c)
  | sla_D => exact hRot .sla (.reg .d)
  | sla_E => exact hRot .sla (.reg .e)
  | sla_H => exact hRot .sla (.reg .h)
  | sla_L => exact hRot .sla (.reg .l)
  | sla_mHL => exact hRot .sla .memHL
  | sla_A => exact hRot .sla (.reg .a)
  | sra_B => exact hRot .sra (.reg .b)
  | sra_C => exact hRot .sra (.reg .c)
  | sra_D => exact hRot .sra (.reg .d)
  | sra_E => exact hRot .sra (.reg .e)
  | sra_H => exact hRot .sra (.reg .h)
  | sra_L => exact hRot .sra (.reg .l)
  | sra_mHL => exact hRot .sra .memHL
  | sra_A => exact hRot .sra (.reg .a)
  | swap_B => exact hRot .swap (.reg .b)
  | swap_C => exact hRot .swap (.reg .c)
  | swap_D => exact hRot .swap (.reg .d)
  | swap_E => exact hRot .swap (.reg .e)
  | swap_H => exact hRot .swap (.reg .h)
  | swap_L => exact hRot .swap (.reg .l)
  | swap_mHL => exact hRot .swap .memHL
  | swap_A => exact hRot .swap (.reg .a)
  | srl_B => exact hRot .srl (.reg .b)
  | srl_C => exact hRot .srl (.reg .c)
  | srl_D => exact hRot .srl (.reg .d)
  | srl_E => exact hRot .srl (.reg .e)
  | srl_H => exact hRot .srl (.reg .h)
  | srl_L => exact hRot .srl (.reg .l)
  | srl_mHL => exact hRot .srl .memHL
  | srl_A => exact hRot .srl (.reg .a)
  | bit_0_B => exact hBit 0 (.reg .b)
  | bit_0_C => exact hBit 0 (.reg .c)
  | bit_0_D => exact hBit 0 (.reg .d)
  | bit_0_E => exact hBit 0 (.reg .e)
  | bit_0_H => exact hBit 0 (.reg .h)
  | bit_0_L => exact hBit 0 (.reg .l)
  | bit_0_mHL => exact hBit 0 .memHL
  | bit_0_A => exact hBit 0 (.reg .a)
  | bit_1_B => exact hBit 1 (.reg .b)
  | bit_1_C => exact hBit 1 (.reg .c)
  | bit_1_D => exact hBit 1 (.reg .d)
  | bit_1_E => exact hBit 1 (.reg .e)
  | bit_1_H => exact hBit 1 (.reg .h)
  | bit_1_L => exact hBit 1 (.reg .l)
  | bit_1_mHL => exact hBit 1 .memHL
  | bit_1_A => exact hBit 1 (.reg .a)
  | bit_2_B => exact hBit 2 (.reg .b)
  | bit_2_C => exact hBit 2 (.reg .c)
  | bit_2_D => exact hBit 2 (.reg .d)
  | bit_2_E => exact hBit 2 (.reg .e)
  | bit_2_H => exact hBit 2 (.reg .h)
  | bit_2_L => exact hBit 2 (.reg .l)
  | bit_2_mHL => exact hBit 2 .memHL
  | bit_2_A => exact hBit 2 (.reg .a)
  | bit_3_B => exact hBit 3 (.reg .b)
  | bit_3_C => exact hBit 3 (.reg .c)
  | bit_3_D => exact hBit 3 (.reg .d)
  | bit_3_E => exact hBit 3 (.reg .e)
  | bit_3_H => exact hBit 3 (.reg .h)
  | bit_3_L => exact hBit 3 (.reg .l)
  | bit_3_mHL => exact hBit 3 .memHL
  | bit_3_A => exact hBit 3 (.reg .a)
  | bit_4_B => exact hBit 4 (.reg .b)
  | bit_4_C => exact hBit 4 (.reg .c)
  | bit_4_D => exact hBit 4 (.reg .d)
  | bit_4_E => exact hBit 4 (.reg .e)
  | bit_4_H => exact hBit 4 (.reg .h)
  | bit_4_L => exact hBit 4 (.reg .l)
  | bit_4_mHL => exact hBit 4 .memHL
  | bit_4_A => exact hBit 4 (.reg .a)
  | bit_5_B => exact hBit 5 (.reg .b)
  | bit_5_C => exact hBit 5 (.reg .c)
  | bit_5_D => exact hBit 5 (.reg .d)
  | bit_5_E => exact hBit 5 (.reg .e)
  | bit_5_H => exact hBit 5 (.reg .h)
  | bit_5_L => exact hBit 5 (.reg .l)
  | bit_5_mHL => exact hBit 5 .memHL
  | bit_5_A => exact hBit 5 (.reg .a)
  | bit_6_B => exact hBit 6 (.reg .b)
  | bit_6_C => exact hBit 6 (.reg .c)
  | bit_6_D => exact hBit 6 (.reg .d)
  | bit_6_E => exact hBit 6 (.reg .e)
  | bit_6_H => exact hBit 6 (.reg .h)
  | bit_6_L => exact hBit 6 (.reg .l)
  | bit_6_mHL => exact hBit 6 .memHL
  | bit_6_A => exact hBit 6 (.reg .a)
  | bit_7_B => exact hBit 7 (.reg .b)
  | bit_7_C => exact hBit 7 (.reg .c)
  | bit_7_D => exact hBit 7 (.reg .d)
  | bit_7_E => exact hBit 7 (.reg .e)
  | bit_7_H => exact hBit 7 (.reg .h)
  | bit_7_L => exact hBit 7 (.reg .l)
  | bit_7_mHL => exact hBit 7 .memHL
  | bit_7_A => exact hBit 7 (.reg .a)
  | res_0_B => exact hRes 0 (.reg .b)
  | res_0_C => exact hRes 0 (.reg .c)
  | res_0_D => exact hRes 0 (.reg .d)
  | res_0_E => exact hRes 0 (.reg .e)
  | res_0_H => exact hRes 0 (.reg .h)
  | res_0_L => exact hRes 0 (.reg .l)
  | res_0_mHL => exact hRes 0 .memHL
  | res_0_A => exact hRes 0 (.reg .a)
  | res_1_B => exact hRes 1 (.reg .b)
  | res_1_C => exact hRes 1 (.reg .c)
  | res_1_D => exact hRes 1 (.reg .d)
  | res_1_E => exact hRes 1 (.reg .e)
  | res_1_H => exact hRes 1 (.reg .h)
  | res_1_L => exact hRes 1 (.reg .l)
  | res_1_mHL => exact hRes 1 .memHL
  | res_1_A => exact hRes 1 (.reg .a)
  | res_2_B => exact hRes 2 (.reg .b)
  | res_2_C => exact hRes 2 (.reg .c)
  | res_2_D => exact hRes 2 (.reg .d)
  | res_2_E => exact hRes 2 (.reg .e)
  | res_2_H => exact hRes 2 (.reg .h)
  | res_2_L => exact hRes 2 (.reg .l)
  | res_2_mHL => exact hRes 2 .memHL
  | res_2_A => exact hRes 2 (.reg .a)
  | res_3_B => exact hRes 3 (.reg .b)
  | res_3_C => exact hRes 3 (.reg .c)
  | res_3_D => exact hRes 3 (.reg .d)
  | res_3_E => exact hRes 3 (.reg .e)
  | res_3_H => exact hRes 3 (.reg .h)
  | res_3_L => exact hRes 3 (.reg .l)
  | res_3_mHL => exact hRes 3 .memHL
  | res_3_A => exact hRes 3 (.reg .a)
  | res_4_B => exact hRes 4 (.reg .b)
  | res_4_C => exact hRes 4 (.reg .c)
  | res_4_D => exact hRes 4 (.reg .d)
  | res_4_E => exact hRes 4 (.reg .e)
  | res_4_H => exact hRes 4 (.reg .h)
  | res_4_L => exact hRes 4 (.reg .l)
  | res_4_mHL => exact hRes 4 .memHL
  | res_4_A => exact hRes 4 (.reg .a)
  | res_5_B => exact hRes 5 (.reg .b)
  | res_5_C => exact hRes 5 (.reg .c)
  | res_5_D => exact hRes 5 (.reg .d)
  | res_5_E => exact hRes 5 (.reg .e)
  | res_5_H => exact hRes 5 (.reg .h)
  | res_5_L => exact hRes 5 (.reg .l)
  | res_5_mHL => exact hRes 5 .memHL
  | res_5_A => exact hRes 5 (.reg .a)
  | res_6_B => exact hRes 6 (.reg .b)
  | res_6_C => exact hRes 6 (.reg .c)
  | res_6_D => exact hRes 6 (.reg .d)
  | res_6_E => exact hRes 6 (.reg .e)
  | res_6_H => exact hRes 6 (.reg .h)
  | res_6_L => exact hRes 6 (.reg .l)
  | res_6_mHL => exact hRes 6 .memHL
  | res_6_A => exact hRes 6 (.reg .a)
  | res_7_B => exact hRes 7 (.reg .b)
  | res_7_C => exact hRes 7 (.reg .c)
  | res_7_D => exact hRes 7 (.reg .d)
  | res_7_E => exact hRes 7 (.reg .e)
  | res_7_H => exact hRes 7 (.reg .h)
  | res_7_L => exact hRes 7 (.reg .l)
  | res_7_mHL => exact hRes 7 .memHL
  | res_7_A => exact hRes 7 (.reg .a)
  | set_0_B => exact hSet 0 (.reg .b)
  | set_0_C => exact hSet 0 (.reg .c)
  | set_0_D => exact hSet 0 (.reg .d)
  | set_0_E => exact hSet 0 (.reg .e)
  | set_0_H => exact hSet 0 (.reg .h)
  | set_0_L => exact hSet 0 (.reg .l)
  | set_0_mHL => exact hSet 0 .memHL
  | set_0_A => exact hSet 0 (.reg .a)
  | set_1_B => exact hSet 1 (.reg .b)
  | set_1_C => exact hSet 1 (.reg .c)
  | set_1_D => exact hSet 1 (.reg .d)
  | set_1_E => exact hSet 1 (.reg .e)
  | set_1_H => exact hSet 1 (.reg .h)
  | set_1_L => exact hSet 1 (.reg .l)
  | set_1_mHL => exact hSet 1 .memHL
  | set_1_A => exact hSet 1 (.reg .a)
  | set_2_B => exact hSet 2 (.reg .b)
  | set_2_C => exact hSet 2 (.reg .c)
  | set_2_D => exact hSet 2 (.reg .d)
  | set_2_E => exact hSet 2 (.reg .e)
  | set_2_H => exact hSet 2 (.reg .h)
  | set_2_L => exact hSet 2 (.reg .l)
  | set_2_mHL => exact hSet 2 .memHL
  | set_2_A => exact hSet 2 (.reg .a)
  | set_3_B => exact hSet 3 (.reg .b)
  | set_3_C => exact hSet 3 (.reg .c)
  | set_3_D => exact hSet 3 (.reg .d)
  | set_3_E => exact hSet 3 (.reg .e)
  | set_3_H => exact hSet 3 (.reg .h)
  | set_3_L => exact hSet 3 (.reg .l)
  | set_3_mHL => exact hSet 3 .memHL
  | set_3_A => exact hSet 3 (.reg .a)
  | set_4_B => exact hSet 4 (.reg .b)
  | set_4_C => exact hSet 4 (.reg .c)
  | set_4_D => exact hSet 4 (.reg .d)
  | set_4_E => exact hSet 4 (.reg .e)
  | set_4_H => exact hSet 4 (.reg .h)
  | set_4_L => exact hSet 4 (.reg .l)
  | set_4_mHL => exact hSet 4 .memHL
  | set_4_A => exact hSet 4 (.reg .a)
  | set_5_B => exact hSet 5 (.reg .b)
  | set_5_C => exact hSet 5 (.reg .c)
  | set_5_D => exact hSet 5 (.reg .d)
  | set_5_E => exact hSet 5 (.reg .e)
  | set_5_H => exact hSet 5 (.reg .h)
  | set_5_L => exact hSet 5 (.reg .l)
  | set_5_mHL => exact hSet 5 .memHL
  | set_5_A => exact hSet 5 (.reg .a)
  | set_6_B => exact hSet 6 (.reg .b)
  | set_6_C => exact hSet 6 (.reg .c)
  | set_6_D => exact hSet 6 (.reg .d)
  | set_6_E => exact hSet 6 (.reg .e)
  | set_6_H => exact hSet 6 (.reg .h)
  | set_6_L => exact hSet 6 (.reg .l)
  | set_6_mHL => exact hSet 6 .memHL
  | set_6_A => exact hSet 6 (.reg .a)
  | set_7_B => exact hSet 7 (.reg .b)
  | set_7_C => exact hSet 7 (.reg .c)
  | set_7_D => exact hSet 7 (.reg .d)
  | set_7_E => exact hSet 7 (.reg .e)
  | set_7_H => exact hSet 7 (.reg .h)
  | set_7_L => exact hSet 7 (.reg .l)
  | set_7_mHL => exact hSet 7 .memHL
  | set_7_A => exact hSet 7 (.reg .a)

end Sys2Proof
end

