-- ==== Sys2Proof/Laws/Ops.lean ====
section
/-!
SUPPORT. What the shared operations do: the stack, the taking of an interrupt and the return from one, the request of one, and
the writes of operands.
-/

namespace Sys2Proof.Machine

/-! ### What an instruction may change, said once -/

/-- `t` differs from `s` by what an instruction may do: the images, the frame buffer, the budget and the fault latch are as they
were, `boot` is not set, and the invariant is kept. -/
structure State.Kept (s t : State) : Prop where
  bios : t.bios = s.bios
  rom : t.rom = s.rom
  fb : t.fb = s.fb
  budget : t.budget = s.budget
  faulted : t.faulted = s.faulted
  boot : t.boot = true → s.boot = true
  inv : s.Inv → t.Inv

theorem State.Kept.refl (s : State) : s.Kept s := ⟨rfl, rfl, rfl, rfl, rfl, id, id⟩

theorem State.Kept.trans {s t u : State} (h : s.Kept t) (k : t.Kept u) : s.Kept u :=
  ⟨k.bios.trans h.bios, k.rom.trans h.rom, k.fb.trans h.fb, k.budget.trans h.budget, k.faulted.trans h.faulted, h.boot ∘ k.boot,
    k.inv ∘ h.inv⟩

/-- A change of registers, flags, modes and counts only. -/
theorem State.Kept.of_eq {s t : State} (hm : t.mem = s.mem) (hb : t.boot = s.boot) (h1 : t.bios = s.bios) (h2 : t.rom = s.rom)
    (h3 : t.fb = s.fb) (h4 : t.budget = s.budget) (h5 : t.faulted = s.faulted) : s.Kept t :=
  ⟨h1, h2, h3, h4, h5, fun h => hb ▸ h, fun h => h.congr hm h1 h2 h4 h3 h5⟩

theorem State.kept_write8 (s : State) (a : Word) (v : Byte) : s.Kept (s.write8 a v) :=
  ⟨by simp, by simp, by simp, by simp, by simp, s.write8_boot_of a v, fun h => h.write8 a v⟩

theorem State.kept_write16 (s : State) (a w : Word) : s.Kept (s.write16 a w) :=
  (s.kept_write8 a (lo w)).trans ((s.write8 a (lo w)).kept_write8 (a + 1) (hi w))

theorem State.kept_setReg (s : State) (r : Reg8) (v : Byte) : s.Kept (s.setReg r v) := .of_eq (by simp) (by simp) (by simp) (by simp) (by simp) (by simp) (by simp)

theorem State.kept_setPair (s : State) (p : Pair) (w : Word) : s.Kept (s.setPair p w) := .of_eq (by simp) (by simp) (by simp) (by simp) (by simp) (by simp) (by simp)

theorem State.kept_setStackPair (s : State) (q : StackPair) (w : Word) : s.Kept (s.setStackPair q w) :=
  .of_eq (by simp) (by simp) (by simp) (by simp) (by simp) (by simp) (by simp)

theorem State.kept_setPc (s : State) (w : Word) : s.Kept (s.setPc w) := .of_eq rfl rfl rfl rfl rfl rfl rfl

theorem State.kept_setSp (s : State) (w : Word) : s.Kept (s.setSp w) := .of_eq rfl rfl rfl rfl rfl rfl rfl

theorem State.kept_setCycles (s : State) (n : Nat) : s.Kept (s.setCycles n) := .of_eq rfl rfl rfl rfl rfl rfl rfl

theorem State.kept_setFlags (s : State) (z n h c : Bool) : s.Kept (s.setFlags z n h c) := .of_eq rfl rfl rfl rfl rfl rfl rfl

theorem State.kept_setOperand (s : State) (x : Operand8) (v : Byte) : s.Kept (s.setOperand x v) := by
  cases x with
  | reg r => exact s.kept_setReg r v
  | memHL => exact s.kept_write8 s.hl v

theorem State.kept_push16 (s : State) (w : Word) : s.Kept (s.push16 w) := (s.kept_setSp _).trans (State.kept_write16 _ _ _)

theorem State.kept_call (s : State) (w : Word) : s.Kept (s.call w) := (s.kept_push16 _).trans (State.kept_setPc _ _)

theorem State.kept_ret (s : State) : s.Kept s.ret := .of_eq rfl rfl rfl rfl rfl rfl rfl

theorem State.kept_returnFromInterrupt (s : State) : s.Kept s.returnFromInterrupt := .of_eq rfl rfl rfl rfl rfl rfl rfl

theorem State.kept_setPending (s : State) (b : Nat) : s.Kept (s.setPending b) :=
  ⟨rfl, rfl, rfl, rfl, rfl, id, fun h => h.setDirect _ (by decide) (by decide)⟩

theorem State.kept_takeInterrupt (s : State) (b : Nat) : s.Kept (s.takeInterrupt b) := by
  let s2 := (s.push16 s.pc).setPc (vector b)
  have h3 : s2.Kept (s2.setDirect IF (s2.direct IF &&& ~~~(1#8 <<< b))) :=
    ⟨rfl, rfl, rfl, rfl, rfl, id, fun h => h.setDirect _ (by decide) (by decide)⟩
  exact (s.kept_push16 s.pc).trans ((State.kept_setPc _ _).trans (h3.trans (.of_eq rfl rfl rfl rfl rfl rfl rfl)))

/-! ### The frame of a write to an operand, and of a push -/

theorem State.sameButOperand (s : State) (x : Operand8) (v : Byte) : s.SameButOperand (s.setOperand x v) x := by
  cases x with
  | reg r => exact fun a => s.read8_setReg r v a
  | memHL => exact s.sameOutside_write8 s.hl v

theorem State.push16_eq (s : State) (w : Word) : s.push16 w = ({ s with sp := s.sp - 2 } : State).write16 (s.sp - 2) w := rfl

theorem State.sameOutside_push16 (s : State) (w : Word) : s.SameOutside16 (s.push16 w) (s.sp - 2) :=
  fun a ha => State.sameOutside_write16 (s.setSp (s.sp - 2)) (s.sp - 2) w a ha

/-- A word written where both its bytes are stored reads back. -/
theorem State.read16_write16 (s : State) (addr w : Word) (h1 : storing addr = true) (h2 : storing (addr + 1) = true) :
    (s.write16 addr w).read8 addr = lo w ∧ (s.write16 addr w).read8 (addr + 1) = hi w ∧ (s.write16 addr w).read16 addr = w := by
  have hin : ∀ {a : Word}, storing a = true → 0x8000 ≤ a.toNat ∧ ¬(0xFEA0 ≤ a.toNat ∧ a.toNat < 0xFF00) := by
    intro a h
    simp only [storing, Bool.and_eq_true, decide_eq_true_eq] at h
    omega
  have hne : reached (addr + 1) addr = false := by
    have := addr.isLt
    have ht : (addr + 1).toNat = (addr.toNat + 1) % 65536 := by rw [BitVec.toNat_add]; rfl
    have := hin h1
    have := hin h2
    have hc : canonical addr ≠ canonical (addr + 1) := by
      simp only [canonical]
      split <;> split <;> omega
    simp only [reached, h2, if_true, decide_eq_false_iff_not]
    exact hc
  have e1 : (s.write16 addr w).read8 addr = lo w := by
    rw [State.write16, State.sameOutside_write8 _ _ _ addr hne]
    exact State.read8_write8_storing s _ h1 rfl (hin h1).1 (hin h1).2
  have e2 : (s.write16 addr w).read8 (addr + 1) = hi w :=
    State.read8_write8_storing _ _ h2 rfl (hin h2).1 (hin h2).2
  exact ⟨e1, e2, by rw [State.read16, e1, e2, cat_hi_lo]⟩

/-- A bus write changes memory and `boot` at most. -/
theorem State.write8_exists (s : State) (a : Word) (v : Byte) : ∃ m b, s.write8 a v = { s with mem := m, boot := b } :=
  ⟨_, _, s.write8_eq a v⟩

theorem State.write16_exists (s : State) (a w : Word) : ∃ m b, s.write16 a w = { s with mem := m, boot := b } :=
  ⟨_, _, s.write16_eq a w⟩

/-- A machine that is not faulted goes on. -/
theorem State.unlessFaulted_none {s : State} (h : s.faulted = none) (k : State → Stage) : s.unlessFaulted k = k s := by
  simp only [State.unlessFaulted, h]

/-- A write of `HL` as two bytes. -/
theorem State.setPair_hl (s : State) (w : Word) :
    s.setPair .hl w = { s with h := BitVec.ofNat 8 (w.toNat / 256), l := BitVec.ofNat 8 w.toNat } := by
  simp only [State.setPair, hi_eq, lo_eq]

end Sys2Proof.Machine
end

