-- ==== Sys2Proof/Laws/Exec.lean ====
section
/-!
SUPPORT. What each shared meaning can do, and from these what `exec` can do: a next state that keeps what `State.Kept` says,
with a legal cycle count, or the decode fault of R275; never a refusal.
-/

namespace Sys2Proof.Machine

/-- A count of R398. -/
abbrev legalCount (n : Nat) : Prop := 4 ∣ n ∧ 4 ≤ n ∧ n ≤ 24

/-- What a legal instruction's outcome is to the state it ran at. -/
def Effect (s : State) (o : Host.Outcome State Fault Refusal) : Prop :=
  match o with
  | .next t => s.Kept t ∧ legalCount t.cycles
  | .fault _ | .refused _ => False

theorem effect_finish {op : Byte} {p k : Bool} {s t : State} (hc : legalCount (CYCLES op p k)) (h : s.Kept t) :
    Effect s (finish op p k t) := ⟨h.trans (t.kept_setCycles _), hc⟩

variable {op : Byte} (s : State)

theorem effect_copyReg (hc : legalCount (CYCLES op false true)) (dst src : Reg8) : Effect s (copyReg op dst src s) :=
  effect_finish hc (s.kept_setReg _ _)

theorem effect_loadReg (hc : legalCount (CYCLES op false true)) (dst : Reg8) : Effect s (loadReg op dst s) :=
  effect_finish hc (s.kept_setReg _ _)

theorem effect_storeReg (hc : legalCount (CYCLES op false true)) (r : Reg8) : Effect s (storeReg op r s) :=
  effect_finish hc (s.kept_write8 _ _)

theorem effect_loadImm (hc : legalCount (CYCLES op false true)) (dst : Reg8) (n : Byte) : Effect s (loadImm op dst n s) :=
  effect_finish hc (s.kept_setReg _ _)

theorem effect_storeAt (hc : legalCount (CYCLES op false true)) (a : Word) (v : Byte) : Effect s (storeAt op a v s) :=
  effect_finish hc (s.kept_write8 _ _)

theorem effect_loadA (hc : legalCount (CYCLES op false true)) (a : Word) : Effect s (loadA op a s) :=
  effect_finish hc (s.kept_setReg _ _)

theorem effect_storeStep (hc : legalCount (CYCLES op false true)) (d : Word) : Effect s (storeStep op d s) :=
  effect_finish hc ((s.kept_write8 _ _).trans (State.kept_setPair _ _ _))

theorem effect_loadStep (hc : legalCount (CYCLES op false true)) (d : Word) : Effect s (loadStep op d s) :=
  effect_finish hc ((s.kept_setReg _ _).trans (State.kept_setPair _ _ _))

theorem effect_loadPair (hc : legalCount (CYCLES op false true)) (p : Pair) (w : Word) : Effect s (loadPair op p w s) :=
  effect_finish hc (s.kept_setPair _ _)

theorem effect_pushPair (hc : legalCount (CYCLES op false true)) (q : StackPair) : Effect s (pushPair op q s) :=
  effect_finish hc (s.kept_push16 _)

theorem effect_popPair (hc : legalCount (CYCLES op false true)) (q : StackPair) : Effect s (popPair op q s) :=
  effect_finish hc ((s.kept_setSp _).trans (State.kept_setStackPair _ _ _))

theorem effect_accumulate (hc : legalCount (CYCLES op false true)) (o : Alu) (v : Byte) : Effect s (accumulate op o v s) := by
  refine effect_finish hc (.trans ?_ (State.kept_setFlags _ _ _ _ _))
  split
  · exact s.kept_setReg _ _
  · exact .refl s

theorem effect_increment (hc : legalCount (CYCLES op false true)) (x : Operand8) : Effect s (increment op x s) :=
  effect_finish hc ((s.kept_setOperand _ _).trans (State.kept_setFlags _ _ _ _ _))

theorem effect_decrement (hc : legalCount (CYCLES op false true)) (x : Operand8) : Effect s (decrement op x s) :=
  effect_finish hc ((s.kept_setOperand _ _).trans (State.kept_setFlags _ _ _ _ _))

theorem effect_addToHL (hc : legalCount (CYCLES op false true)) (p : Pair) : Effect s (addToHL op p s) :=
  effect_finish hc ((s.kept_setPair _ _).trans (State.kept_setFlags _ _ _ _ _))

theorem effect_stepPair (hc : legalCount (CYCLES op false true)) (p : Pair) (d : Word) : Effect s (stepPair op p d s) :=
  effect_finish hc (s.kept_setPair _ _)

theorem effect_addToSP (hc : legalCount (CYCLES op false true)) (p : Pair) (e : Byte) : Effect s (addToSP op p e s) :=
  effect_finish hc ((s.kept_setPair _ _).trans (State.kept_setFlags _ _ _ _ _))

theorem effect_rotateA (hc : legalCount (CYCLES op false true)) (o : Rot) : Effect s (rotateA op o s) :=
  effect_finish hc ((s.kept_setReg _ _).trans (State.kept_setFlags _ _ _ _ _))

/-- Every prefixed instruction has a legal count. -/
theorem legalCount_prefixed (op : Byte) : legalCount (CYCLES op true true) := by
  simp only [CYCLES, if_true, prefixedCycles, legalCount]
  repeat' split
  all_goals decide

theorem effect_rotate (o : Rot) (x : Operand8) : Effect s (rotate op o x s) :=
  effect_finish (legalCount_prefixed op) ((s.kept_setOperand _ _).trans (State.kept_setFlags _ _ _ _ _))

theorem effect_testBit (b : Fin 8) (x : Operand8) : Effect s (testBit op b x s) :=
  effect_finish (legalCount_prefixed op) (s.kept_setFlags _ _ _ _)

theorem effect_resetBit (b : Fin 8) (x : Operand8) : Effect s (resetBit op b x s) :=
  effect_finish (legalCount_prefixed op) (s.kept_setOperand _ _)

theorem effect_setBit (b : Fin 8) (x : Operand8) : Effect s (setBit op b x s) :=
  effect_finish (legalCount_prefixed op) (s.kept_setOperand _ _)

theorem effect_prefixed (op2 : Byte) : Effect s (prefixed op2 s) := by
  simp only [prefixed]
  split
  · exact effect_rotate s _ _
  · exact effect_testBit s _ _
  · exact effect_resetBit s _ _
  · exact effect_setBit s _ _

theorem effect_jumpIf (ht : legalCount (CYCLES op false true)) (hn : legalCount (CYCLES op false false)) (cc : Cond) (w : Word) :
    Effect s (jumpIf op cc w s) := by
  simp only [jumpIf]
  split
  · exact effect_finish ht (s.kept_setPc _)
  · exact effect_finish hn (.refl s)

theorem effect_callIf (ht : legalCount (CYCLES op false true)) (hn : legalCount (CYCLES op false false)) (cc : Cond) (w : Word) :
    Effect s (callIf op cc w s) := by
  simp only [callIf]
  split
  · exact effect_finish ht (s.kept_call _)
  · exact effect_finish hn (.refl s)

theorem effect_returnIf (ht : legalCount (CYCLES op false true)) (hn : legalCount (CYCLES op false false)) (cc : Cond) :
    Effect s (returnIf op cc s) := by
  simp only [returnIf]
  split
  · exact effect_finish ht s.kept_ret
  · exact effect_finish hn (.refl s)

/-- Everything `exec` can do: the decode fault of an illegal opcode, or a next state. -/
theorem exec_effect (i : Instr) (s : State) :
    (∃ op, i.illegalOpcode = some op ∧ exec i s = .fault (s.decodeFault op)) ∨ Effect s (exec i s) := by
  induction i using Instr.form_cases with
  | hLdRegReg dst src => rw [exec_ldRegReg]; exact .inr (effect_copyReg s (by cases dst <;> cases src <;> decide) _ _)
  | hLdRegMem dst => rw [exec_ldRegMem]; exact .inr (effect_loadReg s (by cases dst <;> decide) _)
  | hLdMemReg src => rw [exec_ldMemReg]; exact .inr (effect_storeReg s (by cases src <;> decide) _)
  | hLdRegImm dst n => rw [exec_ldRegImm]; exact .inr (effect_loadImm s (by cases dst <;> decide) _ _)
  | hLdPairImm p w => rw [exec_ldPairImm]; exact .inr (effect_loadPair s (by cases p <;> decide) _ _)
  | hPush q => rw [exec_push]; exact .inr (effect_pushPair s (by cases q <;> decide) _)
  | hPop q => rw [exec_pop]; exact .inr (effect_popPair s (by cases q <;> decide) _)
  | hAluOperand o x =>
    rw [exec_aluOperand]
    refine .inr (effect_accumulate s ?_ _ _)
    rcases x with r | _
    · cases o <;> cases r <;> decide
    · cases o <;> decide
  | hAluImm o n => rw [exec_aluImm]; exact .inr (effect_accumulate s (by cases o <;> decide) _ _)
  | hInc8 x => rw [exec_inc8]; exact .inr (effect_increment s (by rcases x with r | _ <;> first | decide | (cases r <;> decide)) _)
  | hDec8 x => rw [exec_dec8]; exact .inr (effect_decrement s (by rcases x with r | _ <;> first | decide | (cases r <;> decide)) _)
  | hAddHL p => rw [exec_addHL]; exact .inr (effect_addToHL s (by cases p <;> decide) _)
  | hInc16 p => rw [exec_inc16]; exact .inr (effect_stepPair s (by cases p <;> decide) _ _)
  | hDec16 p => rw [exec_dec16]; exact .inr (effect_stepPair s (by cases p <;> decide) _ _)
  | hRot o x => rw [exec_rot]; exact .inr (effect_rotate s _ _)
  | hBit b x => rw [exec_bit]; exact .inr (effect_testBit s _ _)
  | hRes b x => rw [exec_res]; exact .inr (effect_resetBit s _ _)
  | hSet b x => rw [exec_set]; exact .inr (effect_setBit s _ _)
  | hJpCond cc w => rw [exec_jpCond]; exact .inr (effect_jumpIf s (by cases cc <;> decide) (by cases cc <;> decide) _ _)
  | hJrCond cc e => rw [exec_jrCond]; exact .inr (effect_jumpIf s (by cases cc <;> decide) (by cases cc <;> decide) _ _)
  | hCallCond cc w => rw [exec_callCond]; exact .inr (effect_callIf s (by cases cc <;> decide) (by cases cc <;> decide) _ _)
  | hRetCond cc => rw [exec_retCond]; exact .inr (effect_returnIf s (by cases cc <;> decide) (by cases cc <;> decide) _)
  | hRst y => rw [exec_rst]; exact .inr (effect_finish (by fin_cases y <;> decide) (s.kept_call _))
  | hIllegal i op h => exact .inl ⟨op, h, exec_illegal h s⟩
  | h_ld_ma16_SP w => exact .inr (effect_finish (by decide) (s.kept_write16 _ _))
  | h_stop pad => exact .inr (effect_finish (by decide) (.of_eq rfl rfl rfl rfl rfl rfl rfl))
  | h_jr_e8 e => exact .inr (effect_finish (by decide) (s.kept_setPc _))
  | h_ld_mHL_d8 n => exact .inr (effect_storeAt s (by decide) _ _)
  | h_jp_a16 w => exact .inr (effect_finish (by decide) (s.kept_setPc _))
  | h_prefix_CB op2 => exact .inr (effect_prefixed s op2)
  | h_call_a16 w => exact .inr (effect_finish (by decide) (s.kept_call _))
  | h_ldh_ma8_A n => exact .inr (effect_storeAt s (by decide) _ _)
  | h_add_SP_e8 e => exact .inr (effect_addToSP s (by decide) _ _)
  | h_ld_ma16_A w => exact .inr (effect_storeAt s (by decide) _ _)
  | h_ldh_A_ma8 n => exact .inr (effect_loadA s (by decide) _)
  | h_ld_HL_SPe8 e => exact .inr (effect_addToSP s (by decide) _ _)
  | h_ld_A_ma16 w => exact .inr (effect_loadA s (by decide) _)
  | h_nop => exact .inr (effect_finish (by decide) (.refl s))
  | h_ld_mBC_A => exact .inr (effect_storeAt s (by decide) _ _)
  | h_rlca => exact .inr (effect_rotateA s (by decide) _)
  | h_ld_A_mBC => exact .inr (effect_loadA s (by decide) _)
  | h_rrca => exact .inr (effect_rotateA s (by decide) _)
  | h_ld_mDE_A => exact .inr (effect_storeAt s (by decide) _ _)
  | h_rla => exact .inr (effect_rotateA s (by decide) _)
  | h_ld_A_mDE => exact .inr (effect_loadA s (by decide) _)
  | h_rra => exact .inr (effect_rotateA s (by decide) _)
  | h_ld_mHLinc_A => exact .inr (effect_storeStep s (by decide) _)
  | h_daa => exact .inr (effect_finish (by decide) (.of_eq rfl rfl rfl rfl rfl rfl rfl))
  | h_ld_A_mHLinc => exact .inr (effect_loadStep s (by decide) _)
  | h_cpl => exact .inr (effect_finish (by decide) (.of_eq rfl rfl rfl rfl rfl rfl rfl))
  | h_ld_mHLdec_A => exact .inr (effect_storeStep s (by decide) _)
  | h_scf => exact .inr (effect_finish (by decide) (.of_eq rfl rfl rfl rfl rfl rfl rfl))
  | h_ld_A_mHLdec => exact .inr (effect_loadStep s (by decide) _)
  | h_ccf => exact .inr (effect_finish (by decide) (.of_eq rfl rfl rfl rfl rfl rfl rfl))
  | h_halt => exact .inr (effect_finish (by decide) (.of_eq rfl rfl rfl rfl rfl rfl rfl))
  | h_ret => exact .inr (effect_finish (by decide) s.kept_ret)
  | h_reti => exact .inr (effect_finish (by decide) s.kept_returnFromInterrupt)
  | h_ld_mC_A => exact .inr (effect_storeAt s (by decide) _ _)
  | h_jp_HL => exact .inr (effect_finish (by decide) (s.kept_setPc _))
  | h_ld_A_mC => exact .inr (effect_loadA s (by decide) _)
  | h_di => exact .inr (effect_finish (by decide) (.of_eq rfl rfl rfl rfl rfl rfl rfl))
  | h_ld_SP_HL => exact .inr (effect_finish (by decide) (s.kept_setSp _))
  | h_ei => exact .inr (effect_finish (by decide) (.of_eq rfl rfl rfl rfl rfl rfl rfl))

end Sys2Proof.Machine
end

