-- ==== Sys2Proof/Laws/Ppu.lean ====
section
/-!
SUPPORT. What the advances of the PPU and the timer can do: memory, the frame buffer and the budget change, nothing else, and the
invariant is kept.
-/

namespace Sys2Proof.Machine

/-- `t` differs from `s` by what a device may do between the instruction and the delivery check. -/
structure State.Advanced (s t : State) : Prop where
  eq : t = { s with mem := t.mem, fb := t.fb, budget := t.budget }
  inv : s.Inv → t.Inv

theorem State.Advanced.refl (s : State) : s.Advanced s := ⟨rfl, id⟩

theorem State.Advanced.trans {s t u : State} (h : s.Advanced t) (k : t.Advanced u) : s.Advanced u :=
  ⟨by rw [k.eq, h.eq], k.inv ∘ h.inv⟩

theorem State.advanced_setDirect (s : State) {a : Nat} (v : Byte) (ha : a < 65536) (hn : neverWritten a = false) :
    s.Advanced (s.setDirect a v) := ⟨rfl, fun h => h.setDirect v ha hn⟩

theorem State.advanced_setPending (s : State) (b : Nat) : s.Advanced (s.setPending b) :=
  s.advanced_setDirect _ (by decide) (by decide)

theorem State.advanced_setMode (s : State) (mode : BitVec 2) : s.Advanced (s.setMode mode) :=
  s.advanced_setDirect _ (by decide) (by decide)

theorem State.advanced_ppuOff (s : State) : s.Advanced s.ppuOff :=
  (s.advanced_setDirect _ (by decide) (by decide)).trans (State.advanced_setMode _ _)

theorem State.advanced_ppuEnterMode (s : State) : s.Advanced s.ppuEnterMode := by
  simp only [State.ppuEnterMode]
  split
  · exact (s.advanced_setPending 1).trans (State.advanced_setMode _ _)
  · exact s.advanced_setMode _

theorem length_renderedRow (shades : Shades) (s : State) (y : Nat) : (renderedRow shades s y).length = 640 := by
  simp [renderedRow]

theorem State.advanced_renderLine (shades : Shades) (s : State) (y : Nat) : s.Advanced (s.renderLine shades y) :=
  ⟨rfl, fun h => ⟨h.mem, h.unwritten, h.bios, h.rom, h.budget, FrameBuffer.wf_putRow h.fb (length_renderedRow shades s y), h.fault⟩⟩

theorem State.advanced_nextLine (shades : Shades) (s : State) (ly : Nat) : s.Advanced (State.nextLine shades s ly) := by
  have h1 : s.Advanced (if ly + 1 = VBLANK_LINE then s.setPending 0 else s) := by
    split
    · exact s.advanced_setPending 0
    · exact .refl s
  refine h1.trans ?_
  simp only [State.nextLine]
  generalize (if ly + 1 = VBLANK_LINE then s.setPending 0 else s) = s1
  split
  · exact s1.advanced_setDirect _ (by decide) (by decide)
  · have h2 := s1.advanced_setDirect (a := LY) (BitVec.ofNat 8 (ly + 1)) (by decide) (by decide)
    split
    · exact h2.trans (State.advanced_renderLine _ _ _)
    · exact h2

theorem State.advanced_ppuLine (shades : Shades) (s : State) (n : Nat) : s.Advanced (State.ppuLine shades s n) := by
  simp only [State.ppuLine]
  split
  · refine State.Advanced.trans (t := { s with budget := 456 }) ⟨rfl, fun h => ?_⟩ (State.advanced_nextLine _ _ _)
    exact ⟨h.mem, h.unwritten, h.bios, h.rom, Nat.le_refl _, h.fb, h.fault⟩
  · exact ⟨rfl, fun h => ⟨h.mem, h.unwritten, h.bios, h.rom, Nat.le_trans (Nat.sub_le _ _) h.budget, h.fb, h.fault⟩⟩

theorem State.advanced_ppuCoincidence (s : State) : s.Advanced s.ppuCoincidence := by
  simp only [State.ppuCoincidence]
  split
  · have h1 := s.advanced_setDirect (a := STAT) (s.direct STAT ||| 0x04#8) (by decide) (by decide)
    split
    · exact h1.trans (State.advanced_setPending _ _)
    · exact h1
  · exact s.advanced_setDirect _ (by decide) (by decide)

/-- R330: everything an advance of the PPU can do. -/
theorem State.advanced_ppuAdvance (shades : Shades) (s : State) (n : Nat) : s.Advanced (s.ppuAdvance shades n) := by
  simp only [State.ppuAdvance]
  split
  · exact (s.advanced_ppuEnterMode.trans (State.advanced_ppuLine _ _ _)).trans (State.advanced_ppuCoincidence _)
  · exact s.advanced_ppuOff

theorem State.advanced_timerAdvance (s : State) (n : Nat) : s.Advanced (s.timerAdvance n) :=
  s.advanced_setDirect _ (by decide) (by decide)

/-- R300: both advances. -/
theorem State.advanced_advanceDevices (s : State) : s.Advanced s.advanceDevices :=
  (s.advanced_ppuAdvance _ _).trans (State.advanced_timerAdvance _ _)

/-! ### What a rendered row depends on -/

/-- Where the layers' positions lie. -/
theorem layerPosition_lt (s : State) {y x : Nat} (hy : y < 144) (hx : x < 160) :
    (layerPosition s y x).1 < 256 ∧ (layerPosition s y x).2 < 256 := by
  simp only [layerPosition]
  split
  · have := (s.direct WX).isLt
    constructor
    · show x + 7 - _ < 256; omega
    · show y - _ < 256; omega
  · exact ⟨Nat.mod_lt _ (by decide), Nat.mod_lt _ (by decide)⟩

theorem tileAddress_bound (s : State) (t : Byte) : 0x8000 ≤ tileAddress s t ∧ tileAddress s t ≤ 0x97F0 := by
  have := t.isLt
  simp only [tileAddress]
  split
  · omega
  · split <;> omega

/-- The colours of a row are read from tile memory and from LCDC, WY, WX, SCX, SCY: a state that agrees there has them. -/
theorem colourIndex_congr {s t : State} (h : ∀ a, (0x8000 ≤ a ∧ a < 0xA000) ∨ a ∈ [LCDC, WY, WX, SCX, SCY] → t.direct a = s.direct a)
    {y x : Nat} (hy : y < 144) (hx : x < 160) : colourIndex t y x = colourIndex s y x := by
  have e0 := h LCDC (.inr (by decide))
  have ew : windowVisible t y x = windowVisible s y x := by
    simp only [windowVisible, e0, h WY (.inr (by decide)), h WX (.inr (by decide))]
  have ep : layerPosition t y x = layerPosition s y x := by
    simp only [layerPosition, ew, h WY (.inr (by decide)), h WX (.inr (by decide)), h SCX (.inr (by decide)), h SCY (.inr (by decide))]
  have em : mapBase t y x = mapBase s y x := by simp only [mapBase, ew, e0]
  have et : ∀ b, tileAddress t b = tileAddress s b := fun b => by simp only [tileAddress, e0]
  have hb : mapBase s y x = 0x9C00 ∨ mapBase s y x = 0x9800 := by
    simp only [mapBase]
    split <;> simp
  obtain ⟨h1, h2⟩ := layerPosition_lt s hy hx
  have e3 : t.direct (mapBase s y x + (layerPosition s y x).2 / 8 * 32 + (layerPosition s y x).1 / 8)
      = s.direct (mapBase s y x + (layerPosition s y x).2 / 8 * 32 + (layerPosition s y x).1 / 8) := h _ (.inl (by omega))
  simp only [colourIndex, ep, em, et, e3]
  have hb := tileAddress_bound s (s.direct (mapBase s y x + (layerPosition s y x).2 / 8 * 32 + (layerPosition s y x).1 / 8))
  rw [h _ (.inl (by omega)), h _ (.inl (by omega))]

/-- The same for the bytes of a row, which BGP maps. -/
theorem renderedRow_congr (shades : Shades) {s t : State}
    (h : ∀ a, (0x8000 ≤ a ∧ a < 0xA000) ∨ a ∈ [LCDC, WY, WX, SCX, SCY] → t.direct a = s.direct a) (hb : t.direct BGP = s.direct BGP)
    {y : Nat} (hy : y < 144) : renderedRow shades t y = renderedRow shades s y := by
  simp only [renderedRow, hb]
  refine List.map_congr_left fun i hi => ?_
  rw [colourIndex_congr h hy (by have := List.mem_range.1 hi; omega)]
end Sys2Proof.Machine
end

