-- ==== Sys2Proof/Laws/Step.lean ====
section
/-!
SUPPORT. What a CPU step, a delivery check and a system step can do, said once: every claim about a step is a case analysis over
these.
-/

namespace Sys2Proof.Machine

/-! ### The run states -/

theorem State.runState_running {s : State} : s.runState = .running ↔ s.faulted = none ∧ s.stopped = false ∧ s.halted = false := by
  simp only [State.runState]
  cases s.faulted <;> cases s.stopped <;> cases s.halted <;> simp

theorem State.runState_stopped {s : State} : s.runState = .stopped ↔ s.faulted = none ∧ s.stopped = true := by
  simp only [State.runState]
  cases s.faulted <;> cases s.stopped <;> cases s.halted <;> simp

theorem State.runState_halted {s : State} : s.runState = .halted ↔ s.faulted = none ∧ s.stopped = false ∧ s.halted = true := by
  simp only [State.runState]
  cases s.faulted <;> cases s.stopped <;> cases s.halted <;> simp

/-! ### The CPU step -/

/-- A step of a machine that runs is one instruction. -/
theorem State.cpuStep_running {s : State} (h : s.runState = .running) : s.cpuStep = s.runInstruction := by
  obtain ⟨h1, h2, h3⟩ := State.runState_running.1 h
  simp [State.cpuStep, State.unlessFaulted, h1, h2, h3]

theorem State.cpuStep_faulted {s : State} {f : Fault} (h : s.faulted = some f) : s.cpuStep = .raised f s := by
  simp [State.cpuStep, State.unlessFaulted, h]

theorem State.cpuStep_stopped {s : State} (h : s.runState = .stopped) : s.cpuStep = .ok s.suspend := by
  obtain ⟨h1, h2⟩ := State.runState_stopped.1 h
  simp [State.cpuStep, State.unlessFaulted, h1, h2]

theorem State.cpuStep_halted {s : State} (h : s.runState = .halted) :
    s.cpuStep = if s.pendingEnabled = 0x00 then .ok s.suspend else State.runInstruction { s with halted := false } := by
  obtain ⟨h1, h2, h3⟩ := State.runState_halted.1 h
  by_cases hp : s.pendingEnabled = 0x00 <;> simp [State.cpuStep, State.unlessFaulted, h1, h2, h3, hp]

/-- An instruction ends in a state that keeps `State.Kept`, or in the decode fault of an illegal opcode at the state after the
fetch. -/
theorem State.runInstruction_cases (s : State) :
    (∃ t, s.runInstruction = .ok t ∧ s.Kept t ∧ legalCount t.cycles)
    ∨ ∃ op, s.fetched.1.illegalOpcode = some op
        ∧ s.runInstruction = raise s.pastInstruction (s.pastInstruction.decodeFault op) := by
  simp only [State.runInstruction]
  rcases exec_effect s.fetched.1 s.pastInstruction with ⟨op, hi, e⟩ | h
  · exact .inr ⟨op, hi, by rw [e]⟩
  · generalize exec s.fetched.1 s.pastInstruction = o at h
    cases o with
    | next t => exact .inl ⟨t, rfl, (s.kept_setPc _).trans h.1, h.2⟩
    | fault f => exact h.elim
    | refused r => exact h.elim

/-- Everything a CPU step can do: it returns the latched fault; or it ends in a state that keeps `State.Kept`; or it raises a
decode fault of an illegal opcode at the state after the fetch, `u` being the state it fetched in (awake, if it was halted). -/
theorem State.cpuStep_cases (s : State) :
    (∃ f, s.faulted = some f ∧ s.cpuStep = .raised f s)
    ∨ (s.faulted = none ∧ ∃ t, s.cpuStep = .ok t ∧ s.Kept t ∧ legalCount t.cycles)
    ∨ (s.faulted = none ∧ ∃ u op, (u = s ∨ u = { s with halted := false })
        ∧ u.fetched.1.illegalOpcode = some op
        ∧ s.cpuStep = raise u.pastInstruction (u.pastInstruction.decodeFault op)) := by
  cases hr : s.runState with
  | faulted =>
    cases hf : s.faulted with
    | some f => exact .inl ⟨f, rfl, State.cpuStep_faulted hf⟩
    | none => simp only [State.runState, hf] at hr; revert hr; cases s.stopped <;> cases s.halted <;> simp
  | stopped =>
    exact .inr (.inl ⟨(State.runState_stopped.1 hr).1, _, State.cpuStep_stopped hr, s.kept_setCycles _, by
      show legalCount SUSPEND_CYCLES; decide⟩)
  | halted =>
    have hf := (State.runState_halted.1 hr).1
    rw [State.cpuStep_halted hr]
    split
    · exact .inr (.inl ⟨hf, _, rfl, s.kept_setCycles _, by show legalCount SUSPEND_CYCLES; decide⟩)
    · rcases State.runInstruction_cases { s with halted := false } with ⟨t, e, k, c⟩ | ⟨op, hi, e⟩
      · have hw : s.Kept { s with halted := false } := .of_eq rfl rfl rfl rfl rfl rfl rfl
        exact .inr (.inl ⟨hf, t, e, hw.trans k, c⟩)
      · exact .inr (.inr ⟨hf, _, op, .inr rfl, hi, e⟩)
  | running =>
    have hf := (State.runState_running.1 hr).1
    rw [State.cpuStep_running hr]
    rcases s.runInstruction_cases with ⟨t, e, k, c⟩ | ⟨op, hi, e⟩
    · exact .inr (.inl ⟨hf, t, e, k, c⟩)
    · exact .inr (.inr ⟨hf, _, op, .inl rfl, hi, e⟩)

/-! ### The delivery check -/

theorem lowestBit_none {m : Byte} : lowestBit m = none ↔ m = 0x00 := by
  have h : ∀ m : Byte, lowestBit m = none ↔ m = 0x00 := by decide +kernel
  exact h m

theorem lowestBit_some {m : Byte} {b : Nat} :
    lowestBit m = some b ↔ b < 8 ∧ m.getLsbD b = true ∧ ∀ k, k < b → m.getLsbD k = false := by
  simp only [lowestBit, List.find?_range_eq_some, Bool.not_eq_eq_eq_not, Bool.not_true, List.mem_range]
  tauto

/-- Everything a delivery check of a machine that is not faulted can do. -/
theorem State.deliverIfPending_cases {s : State} (hf : s.faulted = none) :
    ((s.ime = false ∨ s.pendingEnabled = 0x00) ∧ s.deliverIfPending = .ok s)
    ∨ (s.ime = true ∧ ∃ b, lowestBit s.pendingEnabled = some b
        ∧ ((b ≤ 3 ∧ s.deliverIfPending = .ok (s.takeInterrupt b))
          ∨ (3 < b ∧ s.deliverIfPending = raise s (.internalConsistencyFault b s.snapshot)))) := by
  simp only [State.deliverIfPending, State.unlessFaulted, hf]
  cases hi : s.ime with
  | false => exact .inl ⟨.inl rfl, rfl⟩
  | true =>
    cases hb : lowestBit s.pendingEnabled with
    | none => exact .inl ⟨.inr (lowestBit_none.1 hb), rfl⟩
    | some b =>
      refine .inr ⟨rfl, b, rfl, ?_⟩
      by_cases h3 : b > 3
      · exact .inr ⟨h3, by simp [h3]⟩
      · exact .inl ⟨by omega, by simp [h3]⟩

/-! ### The system step -/

/-- Everything a system step can do: it returns the latched fault and changes nothing; or the CPU step raises a decode fault; or
the CPU step and the advances give `u`, and the delivery check ends the step there, or takes an interrupt, or raises the
consistency fault. -/
theorem State.systemStep_cases (s : State) :
    (∃ f, s.faulted = some f ∧ s.systemStep = .raised f s)
    ∨ (s.faulted = none ∧ ∃ u op, (u = s ∨ u = { s with halted := false })
        ∧ u.fetched.1.illegalOpcode = some op
        ∧ s.systemStep = raise u.pastInstruction (u.pastInstruction.decodeFault op))
    ∨ (s.faulted = none ∧ ∃ t, s.cpuStep = .ok t ∧ s.Kept t ∧ legalCount t.cycles ∧ t.Advanced t.advanceDevices
        ∧ t.advanceDevices.faulted = none
        ∧ (s.systemStep = .ok t.advanceDevices
          ∨ (∃ b, b ≤ 3 ∧ s.systemStep = .ok (t.advanceDevices.takeInterrupt b))
          ∨ ∃ b, 3 < b ∧ b < 8
            ∧ s.systemStep = raise t.advanceDevices (.internalConsistencyFault b t.advanceDevices.snapshot))) := by
  rcases s.cpuStep_cases with ⟨f, hf, e⟩ | ⟨hf, t, e, k, c⟩ | ⟨hf, u, op, hu, hi, e⟩
  · exact .inl ⟨f, hf, by rw [State.systemStep, e]⟩
  · have ha := t.advanced_advanceDevices
    have hn : t.advanceDevices.faulted = none := by rw [ha.eq]; exact k.faulted.trans hf
    refine .inr (.inr ⟨hf, t, e, k, c, ha, hn, ?_⟩)
    simp only [State.systemStep, e]
    rcases State.deliverIfPending_cases hn with ⟨_, d⟩ | ⟨_, b, hb, ⟨h3, d⟩ | ⟨h3, d⟩⟩
    · exact .inl d
    · exact .inr (.inl ⟨b, h3, d⟩)
    · exact .inr (.inr ⟨b, h3, (lowestBit_some.1 hb).1, d⟩)
  · exact .inr (.inl ⟨hf, u, op, hu, hi, by rw [State.systemStep, e]; rfl⟩)

end Sys2Proof.Machine
end

