-- ==== Sys2Proof/Tests/Slice0.lean ====
section
/-!
SUPPORT. Tests: the well-formedness check, every opcode decoded from the word that spec/30_encoding.md and the opcode table write
for it, single steps with the results of spec/95_test_vectors.md, and for each obligation with hypotheses a state and operands
that meet them.
-/

namespace Sys2Proof.Tests

set_option Elab.async false

open Sys2Proof Sys2Proof.Machine

/-! ### Well-formedness -/

/-- R224: the row of the byte 0xCB is refused, with every byte after it. -/
theorem test_wellFormed_refuses_prefix : (Instr.prefix_CB 0x37).wellFormed = false ∧ (Instr.prefix_CB 0x37).notPrefix = false := by
  decide

theorem test_wellFormed_accepts : (Instr.swap_A).wellFormed = true ∧ (Instr.illegal_D3).wellFormed = true := by decide

/-- R100, R101: a list that ends too early is rejected by name. -/
theorem test_decode_rejects :
    decode [] = .error .noBytes ∧ decode [0xCB] = .error (.truncated 0xCB) ∧ decode [0x01, 0x34] = .error (.truncated 0x01) := by
  decide +kernel

/-! ### Every opcode, sixteen a test: first the byte alone, then after the prefix -/

theorem test_decode_00 :
    decodeBytes 0b00000000 0x34 0x12 = (.nop, 1)
    ∧ decodeBytes 0b00000001 0x34 0x12 = (.ld_BC_d16 0x1234, 3)
    ∧ decodeBytes 0b00000010 0x34 0x12 = (.ld_mBC_A, 1)
    ∧ decodeBytes 0b00000011 0x34 0x12 = (.inc_BC, 1)
    ∧ decodeBytes 0b00000100 0x34 0x12 = (.inc_B, 1)
    ∧ decodeBytes 0b00000101 0x34 0x12 = (.dec_B, 1)
    ∧ decodeBytes 0b00000110 0x34 0x12 = (.ld_B_d8 0x34, 2)
    ∧ decodeBytes 0b00000111 0x34 0x12 = (.rlca, 1)
    ∧ decodeBytes 0b00001000 0x34 0x12 = (.ld_ma16_SP 0x1234, 3)
    ∧ decodeBytes 0b00001001 0x34 0x12 = (.add_HL_BC, 1)
    ∧ decodeBytes 0b00001010 0x34 0x12 = (.ld_A_mBC, 1)
    ∧ decodeBytes 0b00001011 0x34 0x12 = (.dec_BC, 1)
    ∧ decodeBytes 0b00001100 0x34 0x12 = (.inc_C, 1)
    ∧ decodeBytes 0b00001101 0x34 0x12 = (.dec_C, 1)
    ∧ decodeBytes 0b00001110 0x34 0x12 = (.ld_C_d8 0x34, 2)
    ∧ decodeBytes 0b00001111 0x34 0x12 = (.rrca, 1) := by
  decide +kernel

theorem test_decode_10 :
    decodeBytes 0b00010000 0x34 0x12 = (.stop 0x34, 2)
    ∧ decodeBytes 0b00010001 0x34 0x12 = (.ld_DE_d16 0x1234, 3)
    ∧ decodeBytes 0b00010010 0x34 0x12 = (.ld_mDE_A, 1)
    ∧ decodeBytes 0b00010011 0x34 0x12 = (.inc_DE, 1)
    ∧ decodeBytes 0b00010100 0x34 0x12 = (.inc_D, 1)
    ∧ decodeBytes 0b00010101 0x34 0x12 = (.dec_D, 1)
    ∧ decodeBytes 0b00010110 0x34 0x12 = (.ld_D_d8 0x34, 2)
    ∧ decodeBytes 0b00010111 0x34 0x12 = (.rla, 1)
    ∧ decodeBytes 0b00011000 0x34 0x12 = (.jr_e8 0x34, 2)
    ∧ decodeBytes 0b00011001 0x34 0x12 = (.add_HL_DE, 1)
    ∧ decodeBytes 0b00011010 0x34 0x12 = (.ld_A_mDE, 1)
    ∧ decodeBytes 0b00011011 0x34 0x12 = (.dec_DE, 1)
    ∧ decodeBytes 0b00011100 0x34 0x12 = (.inc_E, 1)
    ∧ decodeBytes 0b00011101 0x34 0x12 = (.dec_E, 1)
    ∧ decodeBytes 0b00011110 0x34 0x12 = (.ld_E_d8 0x34, 2)
    ∧ decodeBytes 0b00011111 0x34 0x12 = (.rra, 1) := by
  decide +kernel

theorem test_decode_20 :
    decodeBytes 0b00100000 0x34 0x12 = (.jr_NZ_e8 0x34, 2)
    ∧ decodeBytes 0b00100001 0x34 0x12 = (.ld_HL_d16 0x1234, 3)
    ∧ decodeBytes 0b00100010 0x34 0x12 = (.ld_mHLinc_A, 1)
    ∧ decodeBytes 0b00100011 0x34 0x12 = (.inc_HL, 1)
    ∧ decodeBytes 0b00100100 0x34 0x12 = (.inc_H, 1)
    ∧ decodeBytes 0b00100101 0x34 0x12 = (.dec_H, 1)
    ∧ decodeBytes 0b00100110 0x34 0x12 = (.ld_H_d8 0x34, 2)
    ∧ decodeBytes 0b00100111 0x34 0x12 = (.daa, 1)
    ∧ decodeBytes 0b00101000 0x34 0x12 = (.jr_Z_e8 0x34, 2)
    ∧ decodeBytes 0b00101001 0x34 0x12 = (.add_HL_HL, 1)
    ∧ decodeBytes 0b00101010 0x34 0x12 = (.ld_A_mHLinc, 1)
    ∧ decodeBytes 0b00101011 0x34 0x12 = (.dec_HL, 1)
    ∧ decodeBytes 0b00101100 0x34 0x12 = (.inc_L, 1)
    ∧ decodeBytes 0b00101101 0x34 0x12 = (.dec_L, 1)
    ∧ decodeBytes 0b00101110 0x34 0x12 = (.ld_L_d8 0x34, 2)
    ∧ decodeBytes 0b00101111 0x34 0x12 = (.cpl, 1) := by
  decide +kernel

theorem test_decode_30 :
    decodeBytes 0b00110000 0x34 0x12 = (.jr_NC_e8 0x34, 2)
    ∧ decodeBytes 0b00110001 0x34 0x12 = (.ld_SP_d16 0x1234, 3)
    ∧ decodeBytes 0b00110010 0x34 0x12 = (.ld_mHLdec_A, 1)
    ∧ decodeBytes 0b00110011 0x34 0x12 = (.inc_SP, 1)
    ∧ decodeBytes 0b00110100 0x34 0x12 = (.inc_mHL, 1)
    ∧ decodeBytes 0b00110101 0x34 0x12 = (.dec_mHL, 1)
    ∧ decodeBytes 0b00110110 0x34 0x12 = (.ld_mHL_d8 0x34, 2)
    ∧ decodeBytes 0b00110111 0x34 0x12 = (.scf, 1)
    ∧ decodeBytes 0b00111000 0x34 0x12 = (.jr_C_e8 0x34, 2)
    ∧ decodeBytes 0b00111001 0x34 0x12 = (.add_HL_SP, 1)
    ∧ decodeBytes 0b00111010 0x34 0x12 = (.ld_A_mHLdec, 1)
    ∧ decodeBytes 0b00111011 0x34 0x12 = (.dec_SP, 1)
    ∧ decodeBytes 0b00111100 0x34 0x12 = (.inc_A, 1)
    ∧ decodeBytes 0b00111101 0x34 0x12 = (.dec_A, 1)
    ∧ decodeBytes 0b00111110 0x34 0x12 = (.ld_A_d8 0x34, 2)
    ∧ decodeBytes 0b00111111 0x34 0x12 = (.ccf, 1) := by
  decide +kernel

theorem test_decode_40 :
    decodeBytes 0b01000000 0x34 0x12 = (.ld_B_B, 1)
    ∧ decodeBytes 0b01000001 0x34 0x12 = (.ld_B_C, 1)
    ∧ decodeBytes 0b01000010 0x34 0x12 = (.ld_B_D, 1)
    ∧ decodeBytes 0b01000011 0x34 0x12 = (.ld_B_E, 1)
    ∧ decodeBytes 0b01000100 0x34 0x12 = (.ld_B_H, 1)
    ∧ decodeBytes 0b01000101 0x34 0x12 = (.ld_B_L, 1)
    ∧ decodeBytes 0b01000110 0x34 0x12 = (.ld_B_mHL, 1)
    ∧ decodeBytes 0b01000111 0x34 0x12 = (.ld_B_A, 1)
    ∧ decodeBytes 0b01001000 0x34 0x12 = (.ld_C_B, 1)
    ∧ decodeBytes 0b01001001 0x34 0x12 = (.ld_C_C, 1)
    ∧ decodeBytes 0b01001010 0x34 0x12 = (.ld_C_D, 1)
    ∧ decodeBytes 0b01001011 0x34 0x12 = (.ld_C_E, 1)
    ∧ decodeBytes 0b01001100 0x34 0x12 = (.ld_C_H, 1)
    ∧ decodeBytes 0b01001101 0x34 0x12 = (.ld_C_L, 1)
    ∧ decodeBytes 0b01001110 0x34 0x12 = (.ld_C_mHL, 1)
    ∧ decodeBytes 0b01001111 0x34 0x12 = (.ld_C_A, 1) := by
  decide +kernel

theorem test_decode_50 :
    decodeBytes 0b01010000 0x34 0x12 = (.ld_D_B, 1)
    ∧ decodeBytes 0b01010001 0x34 0x12 = (.ld_D_C, 1)
    ∧ decodeBytes 0b01010010 0x34 0x12 = (.ld_D_D, 1)
    ∧ decodeBytes 0b01010011 0x34 0x12 = (.ld_D_E, 1)
    ∧ decodeBytes 0b01010100 0x34 0x12 = (.ld_D_H, 1)
    ∧ decodeBytes 0b01010101 0x34 0x12 = (.ld_D_L, 1)
    ∧ decodeBytes 0b01010110 0x34 0x12 = (.ld_D_mHL, 1)
    ∧ decodeBytes 0b01010111 0x34 0x12 = (.ld_D_A, 1)
    ∧ decodeBytes 0b01011000 0x34 0x12 = (.ld_E_B, 1)
    ∧ decodeBytes 0b01011001 0x34 0x12 = (.ld_E_C, 1)
    ∧ decodeBytes 0b01011010 0x34 0x12 = (.ld_E_D, 1)
    ∧ decodeBytes 0b01011011 0x34 0x12 = (.ld_E_E, 1)
    ∧ decodeBytes 0b01011100 0x34 0x12 = (.ld_E_H, 1)
    ∧ decodeBytes 0b01011101 0x34 0x12 = (.ld_E_L, 1)
    ∧ decodeBytes 0b01011110 0x34 0x12 = (.ld_E_mHL, 1)
    ∧ decodeBytes 0b01011111 0x34 0x12 = (.ld_E_A, 1) := by
  decide +kernel

theorem test_decode_60 :
    decodeBytes 0b01100000 0x34 0x12 = (.ld_H_B, 1)
    ∧ decodeBytes 0b01100001 0x34 0x12 = (.ld_H_C, 1)
    ∧ decodeBytes 0b01100010 0x34 0x12 = (.ld_H_D, 1)
    ∧ decodeBytes 0b01100011 0x34 0x12 = (.ld_H_E, 1)
    ∧ decodeBytes 0b01100100 0x34 0x12 = (.ld_H_H, 1)
    ∧ decodeBytes 0b01100101 0x34 0x12 = (.ld_H_L, 1)
    ∧ decodeBytes 0b01100110 0x34 0x12 = (.ld_H_mHL, 1)
    ∧ decodeBytes 0b01100111 0x34 0x12 = (.ld_H_A, 1)
    ∧ decodeBytes 0b01101000 0x34 0x12 = (.ld_L_B, 1)
    ∧ decodeBytes 0b01101001 0x34 0x12 = (.ld_L_C, 1)
    ∧ decodeBytes 0b01101010 0x34 0x12 = (.ld_L_D, 1)
    ∧ decodeBytes 0b01101011 0x34 0x12 = (.ld_L_E, 1)
    ∧ decodeBytes 0b01101100 0x34 0x12 = (.ld_L_H, 1)
    ∧ decodeBytes 0b01101101 0x34 0x12 = (.ld_L_L, 1)
    ∧ decodeBytes 0b01101110 0x34 0x12 = (.ld_L_mHL, 1)
    ∧ decodeBytes 0b01101111 0x34 0x12 = (.ld_L_A, 1) := by
  decide +kernel

theorem test_decode_70 :
    decodeBytes 0b01110000 0x34 0x12 = (.ld_mHL_B, 1)
    ∧ decodeBytes 0b01110001 0x34 0x12 = (.ld_mHL_C, 1)
    ∧ decodeBytes 0b01110010 0x34 0x12 = (.ld_mHL_D, 1)
    ∧ decodeBytes 0b01110011 0x34 0x12 = (.ld_mHL_E, 1)
    ∧ decodeBytes 0b01110100 0x34 0x12 = (.ld_mHL_H, 1)
    ∧ decodeBytes 0b01110101 0x34 0x12 = (.ld_mHL_L, 1)
    ∧ decodeBytes 0b01110110 0x34 0x12 = (.halt, 1)
    ∧ decodeBytes 0b01110111 0x34 0x12 = (.ld_mHL_A, 1)
    ∧ decodeBytes 0b01111000 0x34 0x12 = (.ld_A_B, 1)
    ∧ decodeBytes 0b01111001 0x34 0x12 = (.ld_A_C, 1)
    ∧ decodeBytes 0b01111010 0x34 0x12 = (.ld_A_D, 1)
    ∧ decodeBytes 0b01111011 0x34 0x12 = (.ld_A_E, 1)
    ∧ decodeBytes 0b01111100 0x34 0x12 = (.ld_A_H, 1)
    ∧ decodeBytes 0b01111101 0x34 0x12 = (.ld_A_L, 1)
    ∧ decodeBytes 0b01111110 0x34 0x12 = (.ld_A_mHL, 1)
    ∧ decodeBytes 0b01111111 0x34 0x12 = (.ld_A_A, 1) := by
  decide +kernel

theorem test_decode_80 :
    decodeBytes 0b10000000 0x34 0x12 = (.add_A_B, 1)
    ∧ decodeBytes 0b10000001 0x34 0x12 = (.add_A_C, 1)
    ∧ decodeBytes 0b10000010 0x34 0x12 = (.add_A_D, 1)
    ∧ decodeBytes 0b10000011 0x34 0x12 = (.add_A_E, 1)
    ∧ decodeBytes 0b10000100 0x34 0x12 = (.add_A_H, 1)
    ∧ decodeBytes 0b10000101 0x34 0x12 = (.add_A_L, 1)
    ∧ decodeBytes 0b10000110 0x34 0x12 = (.add_A_mHL, 1)
    ∧ decodeBytes 0b10000111 0x34 0x12 = (.add_A_A, 1)
    ∧ decodeBytes 0b10001000 0x34 0x12 = (.adc_A_B, 1)
    ∧ decodeBytes 0b10001001 0x34 0x12 = (.adc_A_C, 1)
    ∧ decodeBytes 0b10001010 0x34 0x12 = (.adc_A_D, 1)
    ∧ decodeBytes 0b10001011 0x34 0x12 = (.adc_A_E, 1)
    ∧ decodeBytes 0b10001100 0x34 0x12 = (.adc_A_H, 1)
    ∧ decodeBytes 0b10001101 0x34 0x12 = (.adc_A_L, 1)
    ∧ decodeBytes 0b10001110 0x34 0x12 = (.adc_A_mHL, 1)
    ∧ decodeBytes 0b10001111 0x34 0x12 = (.adc_A_A, 1) := by
  decide +kernel

theorem test_decode_90 :
    decodeBytes 0b10010000 0x34 0x12 = (.sub_B, 1)
    ∧ decodeBytes 0b10010001 0x34 0x12 = (.sub_C, 1)
    ∧ decodeBytes 0b10010010 0x34 0x12 = (.sub_D, 1)
    ∧ decodeBytes 0b10010011 0x34 0x12 = (.sub_E, 1)
    ∧ decodeBytes 0b10010100 0x34 0x12 = (.sub_H, 1)
    ∧ decodeBytes 0b10010101 0x34 0x12 = (.sub_L, 1)
    ∧ decodeBytes 0b10010110 0x34 0x12 = (.sub_mHL, 1)
    ∧ decodeBytes 0b10010111 0x34 0x12 = (.sub_A, 1)
    ∧ decodeBytes 0b10011000 0x34 0x12 = (.sbc_A_B, 1)
    ∧ decodeBytes 0b10011001 0x34 0x12 = (.sbc_A_C, 1)
    ∧ decodeBytes 0b10011010 0x34 0x12 = (.sbc_A_D, 1)
    ∧ decodeBytes 0b10011011 0x34 0x12 = (.sbc_A_E, 1)
    ∧ decodeBytes 0b10011100 0x34 0x12 = (.sbc_A_H, 1)
    ∧ decodeBytes 0b10011101 0x34 0x12 = (.sbc_A_L, 1)
    ∧ decodeBytes 0b10011110 0x34 0x12 = (.sbc_A_mHL, 1)
    ∧ decodeBytes 0b10011111 0x34 0x12 = (.sbc_A_A, 1) := by
  decide +kernel

theorem test_decode_A0 :
    decodeBytes 0b10100000 0x34 0x12 = (.and_B, 1)
    ∧ decodeBytes 0b10100001 0x34 0x12 = (.and_C, 1)
    ∧ decodeBytes 0b10100010 0x34 0x12 = (.and_D, 1)
    ∧ decodeBytes 0b10100011 0x34 0x12 = (.and_E, 1)
    ∧ decodeBytes 0b10100100 0x34 0x12 = (.and_H, 1)
    ∧ decodeBytes 0b10100101 0x34 0x12 = (.and_L, 1)
    ∧ decodeBytes 0b10100110 0x34 0x12 = (.and_mHL, 1)
    ∧ decodeBytes 0b10100111 0x34 0x12 = (.and_A, 1)
    ∧ decodeBytes 0b10101000 0x34 0x12 = (.xor_B, 1)
    ∧ decodeBytes 0b10101001 0x34 0x12 = (.xor_C, 1)
    ∧ decodeBytes 0b10101010 0x34 0x12 = (.xor_D, 1)
    ∧ decodeBytes 0b10101011 0x34 0x12 = (.xor_E, 1)
    ∧ decodeBytes 0b10101100 0x34 0x12 = (.xor_H, 1)
    ∧ decodeBytes 0b10101101 0x34 0x12 = (.xor_L, 1)
    ∧ decodeBytes 0b10101110 0x34 0x12 = (.xor_mHL, 1)
    ∧ decodeBytes 0b10101111 0x34 0x12 = (.xor_A, 1) := by
  decide +kernel

theorem test_decode_B0 :
    decodeBytes 0b10110000 0x34 0x12 = (.or_B, 1)
    ∧ decodeBytes 0b10110001 0x34 0x12 = (.or_C, 1)
    ∧ decodeBytes 0b10110010 0x34 0x12 = (.or_D, 1)
    ∧ decodeBytes 0b10110011 0x34 0x12 = (.or_E, 1)
    ∧ decodeBytes 0b10110100 0x34 0x12 = (.or_H, 1)
    ∧ decodeBytes 0b10110101 0x34 0x12 = (.or_L, 1)
    ∧ decodeBytes 0b10110110 0x34 0x12 = (.or_mHL, 1)
    ∧ decodeBytes 0b10110111 0x34 0x12 = (.or_A, 1)
    ∧ decodeBytes 0b10111000 0x34 0x12 = (.cp_B, 1)
    ∧ decodeBytes 0b10111001 0x34 0x12 = (.cp_C, 1)
    ∧ decodeBytes 0b10111010 0x34 0x12 = (.cp_D, 1)
    ∧ decodeBytes 0b10111011 0x34 0x12 = (.cp_E, 1)
    ∧ decodeBytes 0b10111100 0x34 0x12 = (.cp_H, 1)
    ∧ decodeBytes 0b10111101 0x34 0x12 = (.cp_L, 1)
    ∧ decodeBytes 0b10111110 0x34 0x12 = (.cp_mHL, 1)
    ∧ decodeBytes 0b10111111 0x34 0x12 = (.cp_A, 1) := by
  decide +kernel

theorem test_decode_C0 :
    decodeBytes 0b11000000 0x34 0x12 = (.ret_NZ, 1)
    ∧ decodeBytes 0b11000001 0x34 0x12 = (.pop_BC, 1)
    ∧ decodeBytes 0b11000010 0x34 0x12 = (.jp_NZ_a16 0x1234, 3)
    ∧ decodeBytes 0b11000011 0x34 0x12 = (.jp_a16 0x1234, 3)
    ∧ decodeBytes 0b11000100 0x34 0x12 = (.call_NZ_a16 0x1234, 3)
    ∧ decodeBytes 0b11000101 0x34 0x12 = (.push_BC, 1)
    ∧ decodeBytes 0b11000110 0x34 0x12 = (.add_A_d8 0x34, 2)
    ∧ decodeBytes 0b11000111 0x34 0x12 = (.rst_00, 1)
    ∧ decodeBytes 0b11001000 0x34 0x12 = (.ret_Z, 1)
    ∧ decodeBytes 0b11001001 0x34 0x12 = (.ret, 1)
    ∧ decodeBytes 0b11001010 0x34 0x12 = (.jp_Z_a16 0x1234, 3)
    ∧ decodeBytes 0b11001011 0x34 0x12 = (.swap_H, 2)
    ∧ decodeBytes 0b11001100 0x34 0x12 = (.call_Z_a16 0x1234, 3)
    ∧ decodeBytes 0b11001101 0x34 0x12 = (.call_a16 0x1234, 3)
    ∧ decodeBytes 0b11001110 0x34 0x12 = (.adc_A_d8 0x34, 2)
    ∧ decodeBytes 0b11001111 0x34 0x12 = (.rst_08, 1) := by
  decide +kernel

theorem test_decode_D0 :
    decodeBytes 0b11010000 0x34 0x12 = (.ret_NC, 1)
    ∧ decodeBytes 0b11010001 0x34 0x12 = (.pop_DE, 1)
    ∧ decodeBytes 0b11010010 0x34 0x12 = (.jp_NC_a16 0x1234, 3)
    ∧ decodeBytes 0b11010011 0x34 0x12 = (.illegal_D3, 1)
    ∧ decodeBytes 0b11010100 0x34 0x12 = (.call_NC_a16 0x1234, 3)
    ∧ decodeBytes 0b11010101 0x34 0x12 = (.push_DE, 1)
    ∧ decodeBytes 0b11010110 0x34 0x12 = (.sub_d8 0x34, 2)
    ∧ decodeBytes 0b11010111 0x34 0x12 = (.rst_10, 1)
    ∧ decodeBytes 0b11011000 0x34 0x12 = (.ret_C, 1)
    ∧ decodeBytes 0b11011001 0x34 0x12 = (.reti, 1)
    ∧ decodeBytes 0b11011010 0x34 0x12 = (.jp_C_a16 0x1234, 3)
    ∧ decodeBytes 0b11011011 0x34 0x12 = (.illegal_DB, 1)
    ∧ decodeBytes 0b11011100 0x34 0x12 = (.call_C_a16 0x1234, 3)
    ∧ decodeBytes 0b11011101 0x34 0x12 = (.illegal_DD, 1)
    ∧ decodeBytes 0b11011110 0x34 0x12 = (.sbc_A_d8 0x34, 2)
    ∧ decodeBytes 0b11011111 0x34 0x12 = (.rst_18, 1) := by
  decide +kernel

theorem test_decode_E0 :
    decodeBytes 0b11100000 0x34 0x12 = (.ldh_ma8_A 0x34, 2)
    ∧ decodeBytes 0b11100001 0x34 0x12 = (.pop_HL, 1)
    ∧ decodeBytes 0b11100010 0x34 0x12 = (.ld_mC_A, 1)
    ∧ decodeBytes 0b11100011 0x34 0x12 = (.illegal_E3, 1)
    ∧ decodeBytes 0b11100100 0x34 0x12 = (.illegal_E4, 1)
    ∧ decodeBytes 0b11100101 0x34 0x12 = (.push_HL, 1)
    ∧ decodeBytes 0b11100110 0x34 0x12 = (.and_d8 0x34, 2)
    ∧ decodeBytes 0b11100111 0x34 0x12 = (.rst_20, 1)
    ∧ decodeBytes 0b11101000 0x34 0x12 = (.add_SP_e8 0x34, 2)
    ∧ decodeBytes 0b11101001 0x34 0x12 = (.jp_HL, 1)
    ∧ decodeBytes 0b11101010 0x34 0x12 = (.ld_ma16_A 0x1234, 3)
    ∧ decodeBytes 0b11101011 0x34 0x12 = (.illegal_EB, 1)
    ∧ decodeBytes 0b11101100 0x34 0x12 = (.illegal_EC, 1)
    ∧ decodeBytes 0b11101101 0x34 0x12 = (.illegal_ED, 1)
    ∧ decodeBytes 0b11101110 0x34 0x12 = (.xor_d8 0x34, 2)
    ∧ decodeBytes 0b11101111 0x34 0x12 = (.rst_28, 1) := by
  decide +kernel

theorem test_decode_F0 :
    decodeBytes 0b11110000 0x34 0x12 = (.ldh_A_ma8 0x34, 2)
    ∧ decodeBytes 0b11110001 0x34 0x12 = (.pop_AF, 1)
    ∧ decodeBytes 0b11110010 0x34 0x12 = (.ld_A_mC, 1)
    ∧ decodeBytes 0b11110011 0x34 0x12 = (.di, 1)
    ∧ decodeBytes 0b11110100 0x34 0x12 = (.illegal_F4, 1)
    ∧ decodeBytes 0b11110101 0x34 0x12 = (.push_AF, 1)
    ∧ decodeBytes 0b11110110 0x34 0x12 = (.or_d8 0x34, 2)
    ∧ decodeBytes 0b11110111 0x34 0x12 = (.rst_30, 1)
    ∧ decodeBytes 0b11111000 0x34 0x12 = (.ld_HL_SPe8 0x34, 2)
    ∧ decodeBytes 0b11111001 0x34 0x12 = (.ld_SP_HL, 1)
    ∧ decodeBytes 0b11111010 0x34 0x12 = (.ld_A_ma16 0x1234, 3)
    ∧ decodeBytes 0b11111011 0x34 0x12 = (.ei, 1)
    ∧ decodeBytes 0b11111100 0x34 0x12 = (.illegal_FC, 1)
    ∧ decodeBytes 0b11111101 0x34 0x12 = (.illegal_FD, 1)
    ∧ decodeBytes 0b11111110 0x34 0x12 = (.cp_d8 0x34, 2)
    ∧ decodeBytes 0b11111111 0x34 0x12 = (.rst_38, 1) := by
  decide +kernel

theorem test_decode_CB_00 :
    decodeBytes 0xCB 0b00000000 0x00 = (.rlc_B, 2)
    ∧ decodeBytes 0xCB 0b00000001 0x00 = (.rlc_C, 2)
    ∧ decodeBytes 0xCB 0b00000010 0x00 = (.rlc_D, 2)
    ∧ decodeBytes 0xCB 0b00000011 0x00 = (.rlc_E, 2)
    ∧ decodeBytes 0xCB 0b00000100 0x00 = (.rlc_H, 2)
    ∧ decodeBytes 0xCB 0b00000101 0x00 = (.rlc_L, 2)
    ∧ decodeBytes 0xCB 0b00000110 0x00 = (.rlc_mHL, 2)
    ∧ decodeBytes 0xCB 0b00000111 0x00 = (.rlc_A, 2)
    ∧ decodeBytes 0xCB 0b00001000 0x00 = (.rrc_B, 2)
    ∧ decodeBytes 0xCB 0b00001001 0x00 = (.rrc_C, 2)
    ∧ decodeBytes 0xCB 0b00001010 0x00 = (.rrc_D, 2)
    ∧ decodeBytes 0xCB 0b00001011 0x00 = (.rrc_E, 2)
    ∧ decodeBytes 0xCB 0b00001100 0x00 = (.rrc_H, 2)
    ∧ decodeBytes 0xCB 0b00001101 0x00 = (.rrc_L, 2)
    ∧ decodeBytes 0xCB 0b00001110 0x00 = (.rrc_mHL, 2)
    ∧ decodeBytes 0xCB 0b00001111 0x00 = (.rrc_A, 2) := by
  decide +kernel

theorem test_decode_CB_10 :
    decodeBytes 0xCB 0b00010000 0x00 = (.rl_B, 2)
    ∧ decodeBytes 0xCB 0b00010001 0x00 = (.rl_C, 2)
    ∧ decodeBytes 0xCB 0b00010010 0x00 = (.rl_D, 2)
    ∧ decodeBytes 0xCB 0b00010011 0x00 = (.rl_E, 2)
    ∧ decodeBytes 0xCB 0b00010100 0x00 = (.rl_H, 2)
    ∧ decodeBytes 0xCB 0b00010101 0x00 = (.rl_L, 2)
    ∧ decodeBytes 0xCB 0b00010110 0x00 = (.rl_mHL, 2)
    ∧ decodeBytes 0xCB 0b00010111 0x00 = (.rl_A, 2)
    ∧ decodeBytes 0xCB 0b00011000 0x00 = (.rr_B, 2)
    ∧ decodeBytes 0xCB 0b00011001 0x00 = (.rr_C, 2)
    ∧ decodeBytes 0xCB 0b00011010 0x00 = (.rr_D, 2)
    ∧ decodeBytes 0xCB 0b00011011 0x00 = (.rr_E, 2)
    ∧ decodeBytes 0xCB 0b00011100 0x00 = (.rr_H, 2)
    ∧ decodeBytes 0xCB 0b00011101 0x00 = (.rr_L, 2)
    ∧ decodeBytes 0xCB 0b00011110 0x00 = (.rr_mHL, 2)
    ∧ decodeBytes 0xCB 0b00011111 0x00 = (.rr_A, 2) := by
  decide +kernel

theorem test_decode_CB_20 :
    decodeBytes 0xCB 0b00100000 0x00 = (.sla_B, 2)
    ∧ decodeBytes 0xCB 0b00100001 0x00 = (.sla_C, 2)
    ∧ decodeBytes 0xCB 0b00100010 0x00 = (.sla_D, 2)
    ∧ decodeBytes 0xCB 0b00100011 0x00 = (.sla_E, 2)
    ∧ decodeBytes 0xCB 0b00100100 0x00 = (.sla_H, 2)
    ∧ decodeBytes 0xCB 0b00100101 0x00 = (.sla_L, 2)
    ∧ decodeBytes 0xCB 0b00100110 0x00 = (.sla_mHL, 2)
    ∧ decodeBytes 0xCB 0b00100111 0x00 = (.sla_A, 2)
    ∧ decodeBytes 0xCB 0b00101000 0x00 = (.sra_B, 2)
    ∧ decodeBytes 0xCB 0b00101001 0x00 = (.sra_C, 2)
    ∧ decodeBytes 0xCB 0b00101010 0x00 = (.sra_D, 2)
    ∧ decodeBytes 0xCB 0b00101011 0x00 = (.sra_E, 2)
    ∧ decodeBytes 0xCB 0b00101100 0x00 = (.sra_H, 2)
    ∧ decodeBytes 0xCB 0b00101101 0x00 = (.sra_L, 2)
    ∧ decodeBytes 0xCB 0b00101110 0x00 = (.sra_mHL, 2)
    ∧ decodeBytes 0xCB 0b00101111 0x00 = (.sra_A, 2) := by
  decide +kernel

theorem test_decode_CB_30 :
    decodeBytes 0xCB 0b00110000 0x00 = (.swap_B, 2)
    ∧ decodeBytes 0xCB 0b00110001 0x00 = (.swap_C, 2)
    ∧ decodeBytes 0xCB 0b00110010 0x00 = (.swap_D, 2)
    ∧ decodeBytes 0xCB 0b00110011 0x00 = (.swap_E, 2)
    ∧ decodeBytes 0xCB 0b00110100 0x00 = (.swap_H, 2)
    ∧ decodeBytes 0xCB 0b00110101 0x00 = (.swap_L, 2)
    ∧ decodeBytes 0xCB 0b00110110 0x00 = (.swap_mHL, 2)
    ∧ decodeBytes 0xCB 0b00110111 0x00 = (.swap_A, 2)
    ∧ decodeBytes 0xCB 0b00111000 0x00 = (.srl_B, 2)
    ∧ decodeBytes 0xCB 0b00111001 0x00 = (.srl_C, 2)
    ∧ decodeBytes 0xCB 0b00111010 0x00 = (.srl_D, 2)
    ∧ decodeBytes 0xCB 0b00111011 0x00 = (.srl_E, 2)
    ∧ decodeBytes 0xCB 0b00111100 0x00 = (.srl_H, 2)
    ∧ decodeBytes 0xCB 0b00111101 0x00 = (.srl_L, 2)
    ∧ decodeBytes 0xCB 0b00111110 0x00 = (.srl_mHL, 2)
    ∧ decodeBytes 0xCB 0b00111111 0x00 = (.srl_A, 2) := by
  decide +kernel

theorem test_decode_CB_40 :
    decodeBytes 0xCB 0b01000000 0x00 = (.bit_0_B, 2)
    ∧ decodeBytes 0xCB 0b01000001 0x00 = (.bit_0_C, 2)
    ∧ decodeBytes 0xCB 0b01000010 0x00 = (.bit_0_D, 2)
    ∧ decodeBytes 0xCB 0b01000011 0x00 = (.bit_0_E, 2)
    ∧ decodeBytes 0xCB 0b01000100 0x00 = (.bit_0_H, 2)
    ∧ decodeBytes 0xCB 0b01000101 0x00 = (.bit_0_L, 2)
    ∧ decodeBytes 0xCB 0b01000110 0x00 = (.bit_0_mHL, 2)
    ∧ decodeBytes 0xCB 0b01000111 0x00 = (.bit_0_A, 2)
    ∧ decodeBytes 0xCB 0b01001000 0x00 = (.bit_1_B, 2)
    ∧ decodeBytes 0xCB 0b01001001 0x00 = (.bit_1_C, 2)
    ∧ decodeBytes 0xCB 0b01001010 0x00 = (.bit_1_D, 2)
    ∧ decodeBytes 0xCB 0b01001011 0x00 = (.bit_1_E, 2)
    ∧ decodeBytes 0xCB 0b01001100 0x00 = (.bit_1_H, 2)
    ∧ decodeBytes 0xCB 0b01001101 0x00 = (.bit_1_L, 2)
    ∧ decodeBytes 0xCB 0b01001110 0x00 = (.bit_1_mHL, 2)
    ∧ decodeBytes 0xCB 0b01001111 0x00 = (.bit_1_A, 2) := by
  decide +kernel

theorem test_decode_CB_50 :
    decodeBytes 0xCB 0b01010000 0x00 = (.bit_2_B, 2)
    ∧ decodeBytes 0xCB 0b01010001 0x00 = (.bit_2_C, 2)
    ∧ decodeBytes 0xCB 0b01010010 0x00 = (.bit_2_D, 2)
    ∧ decodeBytes 0xCB 0b01010011 0x00 = (.bit_2_E, 2)
    ∧ decodeBytes 0xCB 0b01010100 0x00 = (.bit_2_H, 2)
    ∧ decodeBytes 0xCB 0b01010101 0x00 = (.bit_2_L, 2)
    ∧ decodeBytes 0xCB 0b01010110 0x00 = (.bit_2_mHL, 2)
    ∧ decodeBytes 0xCB 0b01010111 0x00 = (.bit_2_A, 2)
    ∧ decodeBytes 0xCB 0b01011000 0x00 = (.bit_3_B, 2)
    ∧ decodeBytes 0xCB 0b01011001 0x00 = (.bit_3_C, 2)
    ∧ decodeBytes 0xCB 0b01011010 0x00 = (.bit_3_D, 2)
    ∧ decodeBytes 0xCB 0b01011011 0x00 = (.bit_3_E, 2)
    ∧ decodeBytes 0xCB 0b01011100 0x00 = (.bit_3_H, 2)
    ∧ decodeBytes 0xCB 0b01011101 0x00 = (.bit_3_L, 2)
    ∧ decodeBytes 0xCB 0b01011110 0x00 = (.bit_3_mHL, 2)
    ∧ decodeBytes 0xCB 0b01011111 0x00 = (.bit_3_A, 2) := by
  decide +kernel

theorem test_decode_CB_60 :
    decodeBytes 0xCB 0b01100000 0x00 = (.bit_4_B, 2)
    ∧ decodeBytes 0xCB 0b01100001 0x00 = (.bit_4_C, 2)
    ∧ decodeBytes 0xCB 0b01100010 0x00 = (.bit_4_D, 2)
    ∧ decodeBytes 0xCB 0b01100011 0x00 = (.bit_4_E, 2)
    ∧ decodeBytes 0xCB 0b01100100 0x00 = (.bit_4_H, 2)
    ∧ decodeBytes 0xCB 0b01100101 0x00 = (.bit_4_L, 2)
    ∧ decodeBytes 0xCB 0b01100110 0x00 = (.bit_4_mHL, 2)
    ∧ decodeBytes 0xCB 0b01100111 0x00 = (.bit_4_A, 2)
    ∧ decodeBytes 0xCB 0b01101000 0x00 = (.bit_5_B, 2)
    ∧ decodeBytes 0xCB 0b01101001 0x00 = (.bit_5_C, 2)
    ∧ decodeBytes 0xCB 0b01101010 0x00 = (.bit_5_D, 2)
    ∧ decodeBytes 0xCB 0b01101011 0x00 = (.bit_5_E, 2)
    ∧ decodeBytes 0xCB 0b01101100 0x00 = (.bit_5_H, 2)
    ∧ decodeBytes 0xCB 0b01101101 0x00 = (.bit_5_L, 2)
    ∧ decodeBytes 0xCB 0b01101110 0x00 = (.bit_5_mHL, 2)
    ∧ decodeBytes 0xCB 0b01101111 0x00 = (.bit_5_A, 2) := by
  decide +kernel

theorem test_decode_CB_70 :
    decodeBytes 0xCB 0b01110000 0x00 = (.bit_6_B, 2)
    ∧ decodeBytes 0xCB 0b01110001 0x00 = (.bit_6_C, 2)
    ∧ decodeBytes 0xCB 0b01110010 0x00 = (.bit_6_D, 2)
    ∧ decodeBytes 0xCB 0b01110011 0x00 = (.bit_6_E, 2)
    ∧ decodeBytes 0xCB 0b01110100 0x00 = (.bit_6_H, 2)
    ∧ decodeBytes 0xCB 0b01110101 0x00 = (.bit_6_L, 2)
    ∧ decodeBytes 0xCB 0b01110110 0x00 = (.bit_6_mHL, 2)
    ∧ decodeBytes 0xCB 0b01110111 0x00 = (.bit_6_A, 2)
    ∧ decodeBytes 0xCB 0b01111000 0x00 = (.bit_7_B, 2)
    ∧ decodeBytes 0xCB 0b01111001 0x00 = (.bit_7_C, 2)
    ∧ decodeBytes 0xCB 0b01111010 0x00 = (.bit_7_D, 2)
    ∧ decodeBytes 0xCB 0b01111011 0x00 = (.bit_7_E, 2)
    ∧ decodeBytes 0xCB 0b01111100 0x00 = (.bit_7_H, 2)
    ∧ decodeBytes 0xCB 0b01111101 0x00 = (.bit_7_L, 2)
    ∧ decodeBytes 0xCB 0b01111110 0x00 = (.bit_7_mHL, 2)
    ∧ decodeBytes 0xCB 0b01111111 0x00 = (.bit_7_A, 2) := by
  decide +kernel

theorem test_decode_CB_80 :
    decodeBytes 0xCB 0b10000000 0x00 = (.res_0_B, 2)
    ∧ decodeBytes 0xCB 0b10000001 0x00 = (.res_0_C, 2)
    ∧ decodeBytes 0xCB 0b10000010 0x00 = (.res_0_D, 2)
    ∧ decodeBytes 0xCB 0b10000011 0x00 = (.res_0_E, 2)
    ∧ decodeBytes 0xCB 0b10000100 0x00 = (.res_0_H, 2)
    ∧ decodeBytes 0xCB 0b10000101 0x00 = (.res_0_L, 2)
    ∧ decodeBytes 0xCB 0b10000110 0x00 = (.res_0_mHL, 2)
    ∧ decodeBytes 0xCB 0b10000111 0x00 = (.res_0_A, 2)
    ∧ decodeBytes 0xCB 0b10001000 0x00 = (.res_1_B, 2)
    ∧ decodeBytes 0xCB 0b10001001 0x00 = (.res_1_C, 2)
    ∧ decodeBytes 0xCB 0b10001010 0x00 = (.res_1_D, 2)
    ∧ decodeBytes 0xCB 0b10001011 0x00 = (.res_1_E, 2)
    ∧ decodeBytes 0xCB 0b10001100 0x00 = (.res_1_H, 2)
    ∧ decodeBytes 0xCB 0b10001101 0x00 = (.res_1_L, 2)
    ∧ decodeBytes 0xCB 0b10001110 0x00 = (.res_1_mHL, 2)
    ∧ decodeBytes 0xCB 0b10001111 0x00 = (.res_1_A, 2) := by
  decide +kernel

theorem test_decode_CB_90 :
    decodeBytes 0xCB 0b10010000 0x00 = (.res_2_B, 2)
    ∧ decodeBytes 0xCB 0b10010001 0x00 = (.res_2_C, 2)
    ∧ decodeBytes 0xCB 0b10010010 0x00 = (.res_2_D, 2)
    ∧ decodeBytes 0xCB 0b10010011 0x00 = (.res_2_E, 2)
    ∧ decodeBytes 0xCB 0b10010100 0x00 = (.res_2_H, 2)
    ∧ decodeBytes 0xCB 0b10010101 0x00 = (.res_2_L, 2)
    ∧ decodeBytes 0xCB 0b10010110 0x00 = (.res_2_mHL, 2)
    ∧ decodeBytes 0xCB 0b10010111 0x00 = (.res_2_A, 2)
    ∧ decodeBytes 0xCB 0b10011000 0x00 = (.res_3_B, 2)
    ∧ decodeBytes 0xCB 0b10011001 0x00 = (.res_3_C, 2)
    ∧ decodeBytes 0xCB 0b10011010 0x00 = (.res_3_D, 2)
    ∧ decodeBytes 0xCB 0b10011011 0x00 = (.res_3_E, 2)
    ∧ decodeBytes 0xCB 0b10011100 0x00 = (.res_3_H, 2)
    ∧ decodeBytes 0xCB 0b10011101 0x00 = (.res_3_L, 2)
    ∧ decodeBytes 0xCB 0b10011110 0x00 = (.res_3_mHL, 2)
    ∧ decodeBytes 0xCB 0b10011111 0x00 = (.res_3_A, 2) := by
  decide +kernel

theorem test_decode_CB_A0 :
    decodeBytes 0xCB 0b10100000 0x00 = (.res_4_B, 2)
    ∧ decodeBytes 0xCB 0b10100001 0x00 = (.res_4_C, 2)
    ∧ decodeBytes 0xCB 0b10100010 0x00 = (.res_4_D, 2)
    ∧ decodeBytes 0xCB 0b10100011 0x00 = (.res_4_E, 2)
    ∧ decodeBytes 0xCB 0b10100100 0x00 = (.res_4_H, 2)
    ∧ decodeBytes 0xCB 0b10100101 0x00 = (.res_4_L, 2)
    ∧ decodeBytes 0xCB 0b10100110 0x00 = (.res_4_mHL, 2)
    ∧ decodeBytes 0xCB 0b10100111 0x00 = (.res_4_A, 2)
    ∧ decodeBytes 0xCB 0b10101000 0x00 = (.res_5_B, 2)
    ∧ decodeBytes 0xCB 0b10101001 0x00 = (.res_5_C, 2)
    ∧ decodeBytes 0xCB 0b10101010 0x00 = (.res_5_D, 2)
    ∧ decodeBytes 0xCB 0b10101011 0x00 = (.res_5_E, 2)
    ∧ decodeBytes 0xCB 0b10101100 0x00 = (.res_5_H, 2)
    ∧ decodeBytes 0xCB 0b10101101 0x00 = (.res_5_L, 2)
    ∧ decodeBytes 0xCB 0b10101110 0x00 = (.res_5_mHL, 2)
    ∧ decodeBytes 0xCB 0b10101111 0x00 = (.res_5_A, 2) := by
  decide +kernel

theorem test_decode_CB_B0 :
    decodeBytes 0xCB 0b10110000 0x00 = (.res_6_B, 2)
    ∧ decodeBytes 0xCB 0b10110001 0x00 = (.res_6_C, 2)
    ∧ decodeBytes 0xCB 0b10110010 0x00 = (.res_6_D, 2)
    ∧ decodeBytes 0xCB 0b10110011 0x00 = (.res_6_E, 2)
    ∧ decodeBytes 0xCB 0b10110100 0x00 = (.res_6_H, 2)
    ∧ decodeBytes 0xCB 0b10110101 0x00 = (.res_6_L, 2)
    ∧ decodeBytes 0xCB 0b10110110 0x00 = (.res_6_mHL, 2)
    ∧ decodeBytes 0xCB 0b10110111 0x00 = (.res_6_A, 2)
    ∧ decodeBytes 0xCB 0b10111000 0x00 = (.res_7_B, 2)
    ∧ decodeBytes 0xCB 0b10111001 0x00 = (.res_7_C, 2)
    ∧ decodeBytes 0xCB 0b10111010 0x00 = (.res_7_D, 2)
    ∧ decodeBytes 0xCB 0b10111011 0x00 = (.res_7_E, 2)
    ∧ decodeBytes 0xCB 0b10111100 0x00 = (.res_7_H, 2)
    ∧ decodeBytes 0xCB 0b10111101 0x00 = (.res_7_L, 2)
    ∧ decodeBytes 0xCB 0b10111110 0x00 = (.res_7_mHL, 2)
    ∧ decodeBytes 0xCB 0b10111111 0x00 = (.res_7_A, 2) := by
  decide +kernel

theorem test_decode_CB_C0 :
    decodeBytes 0xCB 0b11000000 0x00 = (.set_0_B, 2)
    ∧ decodeBytes 0xCB 0b11000001 0x00 = (.set_0_C, 2)
    ∧ decodeBytes 0xCB 0b11000010 0x00 = (.set_0_D, 2)
    ∧ decodeBytes 0xCB 0b11000011 0x00 = (.set_0_E, 2)
    ∧ decodeBytes 0xCB 0b11000100 0x00 = (.set_0_H, 2)
    ∧ decodeBytes 0xCB 0b11000101 0x00 = (.set_0_L, 2)
    ∧ decodeBytes 0xCB 0b11000110 0x00 = (.set_0_mHL, 2)
    ∧ decodeBytes 0xCB 0b11000111 0x00 = (.set_0_A, 2)
    ∧ decodeBytes 0xCB 0b11001000 0x00 = (.set_1_B, 2)
    ∧ decodeBytes 0xCB 0b11001001 0x00 = (.set_1_C, 2)
    ∧ decodeBytes 0xCB 0b11001010 0x00 = (.set_1_D, 2)
    ∧ decodeBytes 0xCB 0b11001011 0x00 = (.set_1_E, 2)
    ∧ decodeBytes 0xCB 0b11001100 0x00 = (.set_1_H, 2)
    ∧ decodeBytes 0xCB 0b11001101 0x00 = (.set_1_L, 2)
    ∧ decodeBytes 0xCB 0b11001110 0x00 = (.set_1_mHL, 2)
    ∧ decodeBytes 0xCB 0b11001111 0x00 = (.set_1_A, 2) := by
  decide +kernel

theorem test_decode_CB_D0 :
    decodeBytes 0xCB 0b11010000 0x00 = (.set_2_B, 2)
    ∧ decodeBytes 0xCB 0b11010001 0x00 = (.set_2_C, 2)
    ∧ decodeBytes 0xCB 0b11010010 0x00 = (.set_2_D, 2)
    ∧ decodeBytes 0xCB 0b11010011 0x00 = (.set_2_E, 2)
    ∧ decodeBytes 0xCB 0b11010100 0x00 = (.set_2_H, 2)
    ∧ decodeBytes 0xCB 0b11010101 0x00 = (.set_2_L, 2)
    ∧ decodeBytes 0xCB 0b11010110 0x00 = (.set_2_mHL, 2)
    ∧ decodeBytes 0xCB 0b11010111 0x00 = (.set_2_A, 2)
    ∧ decodeBytes 0xCB 0b11011000 0x00 = (.set_3_B, 2)
    ∧ decodeBytes 0xCB 0b11011001 0x00 = (.set_3_C, 2)
    ∧ decodeBytes 0xCB 0b11011010 0x00 = (.set_3_D, 2)
    ∧ decodeBytes 0xCB 0b11011011 0x00 = (.set_3_E, 2)
    ∧ decodeBytes 0xCB 0b11011100 0x00 = (.set_3_H, 2)
    ∧ decodeBytes 0xCB 0b11011101 0x00 = (.set_3_L, 2)
    ∧ decodeBytes 0xCB 0b11011110 0x00 = (.set_3_mHL, 2)
    ∧ decodeBytes 0xCB 0b11011111 0x00 = (.set_3_A, 2) := by
  decide +kernel

theorem test_decode_CB_E0 :
    decodeBytes 0xCB 0b11100000 0x00 = (.set_4_B, 2)
    ∧ decodeBytes 0xCB 0b11100001 0x00 = (.set_4_C, 2)
    ∧ decodeBytes 0xCB 0b11100010 0x00 = (.set_4_D, 2)
    ∧ decodeBytes 0xCB 0b11100011 0x00 = (.set_4_E, 2)
    ∧ decodeBytes 0xCB 0b11100100 0x00 = (.set_4_H, 2)
    ∧ decodeBytes 0xCB 0b11100101 0x00 = (.set_4_L, 2)
    ∧ decodeBytes 0xCB 0b11100110 0x00 = (.set_4_mHL, 2)
    ∧ decodeBytes 0xCB 0b11100111 0x00 = (.set_4_A, 2)
    ∧ decodeBytes 0xCB 0b11101000 0x00 = (.set_5_B, 2)
    ∧ decodeBytes 0xCB 0b11101001 0x00 = (.set_5_C, 2)
    ∧ decodeBytes 0xCB 0b11101010 0x00 = (.set_5_D, 2)
    ∧ decodeBytes 0xCB 0b11101011 0x00 = (.set_5_E, 2)
    ∧ decodeBytes 0xCB 0b11101100 0x00 = (.set_5_H, 2)
    ∧ decodeBytes 0xCB 0b11101101 0x00 = (.set_5_L, 2)
    ∧ decodeBytes 0xCB 0b11101110 0x00 = (.set_5_mHL, 2)
    ∧ decodeBytes 0xCB 0b11101111 0x00 = (.set_5_A, 2) := by
  decide +kernel

theorem test_decode_CB_F0 :
    decodeBytes 0xCB 0b11110000 0x00 = (.set_6_B, 2)
    ∧ decodeBytes 0xCB 0b11110001 0x00 = (.set_6_C, 2)
    ∧ decodeBytes 0xCB 0b11110010 0x00 = (.set_6_D, 2)
    ∧ decodeBytes 0xCB 0b11110011 0x00 = (.set_6_E, 2)
    ∧ decodeBytes 0xCB 0b11110100 0x00 = (.set_6_H, 2)
    ∧ decodeBytes 0xCB 0b11110101 0x00 = (.set_6_L, 2)
    ∧ decodeBytes 0xCB 0b11110110 0x00 = (.set_6_mHL, 2)
    ∧ decodeBytes 0xCB 0b11110111 0x00 = (.set_6_A, 2)
    ∧ decodeBytes 0xCB 0b11111000 0x00 = (.set_7_B, 2)
    ∧ decodeBytes 0xCB 0b11111001 0x00 = (.set_7_C, 2)
    ∧ decodeBytes 0xCB 0b11111010 0x00 = (.set_7_D, 2)
    ∧ decodeBytes 0xCB 0b11111011 0x00 = (.set_7_E, 2)
    ∧ decodeBytes 0xCB 0b11111100 0x00 = (.set_7_H, 2)
    ∧ decodeBytes 0xCB 0b11111101 0x00 = (.set_7_L, 2)
    ∧ decodeBytes 0xCB 0b11111110 0x00 = (.set_7_mHL, 2)
    ∧ decodeBytes 0xCB 0b11111111 0x00 = (.set_7_A, 2) := by
  decide +kernel

/-! ### Single steps -/

/-- The bytes of a memory, in the order of addresses. -/
def bytesAt (a : Nat) (bytes : List Byte) (m : Memory) : Memory :=
  match bytes with
  | [] => m
  | b :: rest => (bytesAt (a + 1) rest m).write a b

/-- A machine at reset that differs by what a vector gives. -/
abbrev z : State := State.reset

/-- `s` with a memory byte. -/
def withByte (s : State) (a : Nat) (v : Byte) : State := s.setDirect a v

/-- The state after one CPU `step()` (R100) of the bytes placed at `PC` in `BIOS`. -/
def run (bytes : List Byte) (s : State) : State := ({ s with bios := bytesAt s.pc.toNat bytes s.bios } : State).cpuStep.stateOr s

/-- `s` with the flags of a byte `F`. -/
def withF (s : State) (f : Byte) : State :=
  { s with fZ := f.getLsbD 7, fN := f.getLsbD 6, fH := f.getLsbD 5, fC := f.getLsbD 4 }

/-- `A`, `F` and the cycles. -/
def af (s : State) : Byte × Byte × Nat := (s.a, s.flagByte, s.cycles)

/-- `PC`, `SP` and the cycles. -/
def flow (s : State) : Word × Word × Nat := (s.pc, s.sp, s.cycles)

/-- V-ALU-1. -/
theorem test_add :
    af (run [0x80] { z with a := 0x0F, b := 0x01 }) = (0x10, 0x20, 4) ∧ af (run [0xC6, 0x80] { z with a := 0x80 }) = (0x00, 0x90, 8)
    ∧ af (run [0x87] { z with a := 0xFF }) = (0xFE, 0x30, 4) := by decide +kernel

/-- V-ALU-2. -/
theorem test_adc :
    af (run [0x89] { z with a := 0x0F, c := 0x0F, fC := true }) = (0x1F, 0x20, 4)
    ∧ af (run [0xCE, 0x80] { z with a := 0x7F, fC := true }) = (0x00, 0xB0, 8) := by decide +kernel

/-- V-ALU-3. -/
theorem test_sub :
    af (run [0x92] { z with a := 0x10, d := 0x01 }) = (0x0F, 0x60, 4)
    ∧ af (run [0xD6, 0x01] { z with a := 0x00, fC := true }) = (0xFF, 0x70, 8) := by decide +kernel

/-- V-ALU-4. -/
theorem test_sbc :
    af (run [0x9B] { z with a := 0x10, e := 0x0F, fC := true }) = (0x00, 0xE0, 4)
    ∧ af (run [0xDE, 0xFF] { z with a := 0x00, fC := true }) = (0x00, 0xF0, 8) := by decide +kernel

/-- V-ALU-5, V-ALU-6, V-ALU-7. -/
theorem test_logic :
    af (run [0xA4] { z with a := 0x0F, h := 0x10, fC := true }) = (0x00, 0xA0, 4)
    ∧ af (run [0xAD] { z with a := 0x0F, l := 0x7F, fH := true }) = (0x70, 0x00, 4)
    ∧ af (run [0xF6, 0x80] { z with a := 0x7F, fN := true }) = (0xFF, 0x00, 8) := by decide +kernel

/-- V-ALU-3: `CP` keeps `A`; the operand at `HL` costs 8 cycles. -/
theorem test_cp :
    af (run [0xBE] (withByte { z with a := 0x0F, h := 0xC0 } 0xC000 0x10)) = (0x0F, 0x50, 8)
    ∧ af (run [0xFE, 0x80] { z with a := 0x80 }) = (0x80, 0xC0, 8) := by decide +kernel

/-- V-ALU-8: fC is kept. -/
theorem test_inc_dec_byte :
    (fun t : State => (t.b, t.flagByte)) (run [0x04] { z with b := 0xFF, fC := true }) = (0x00, 0xB0)
    ∧ (fun t : State => (t.c, t.flagByte)) (run [0x0D] { z with c := 0x10 }) = (0x0F, 0x60)
    ∧ (fun t : State => (t.read8 0xC000, t.flagByte, t.cycles)) (run [0x34] (withByte { z with h := 0xC0 } 0xC000 0x0F))
        = (0x10, 0x20, 12)
    ∧ (fun t : State => (t.read8 0xC000, t.flagByte, t.cycles)) (run [0x35] (withByte { z with h := 0xC0 } 0xC000 0x01))
        = (0x00, 0xC0, 12) := by decide +kernel

/-- V-ALU-9, after an addition; the first row is the document's example T7. -/
theorem test_daa_add :
    af (run [0x27] { z with a := 0x0F, fH := true }) = (0x15, 0x00, 4) ∧ af (run [0x27] { z with a := 0x9A }) = (0x00, 0x90, 4)
    ∧ af (run [0x27] { z with a := 0x12, fC := true }) = (0x72, 0x10, 4) := by decide +kernel

/-- V-ALU-9, after a subtraction. -/
theorem test_daa_sub :
    af (run [0x27] { z with a := 0x0F, fN := true, fH := true }) = (0x09, 0x40, 4)
    ∧ af (run [0x27] { z with a := 0x00, fN := true, fH := true, fC := true }) = (0x9A, 0x50, 4)
    ∧ af (run [0x27] { z with a := 0x9A, fN := true }) = (0x9A, 0x40, 4) := by decide +kernel

/-- V-ALU-10. -/
theorem test_cpl_scf_ccf :
    af (run [0x2F] (withF { z with a := 0x00 } 0x90)) = (0xFF, 0xF0, 4) ∧ af (run [0x37] (withF { z with a := 0x12 } 0xE0)) = (0x12, 0x90, 4)
    ∧ af (run [0x3F] (withF { z with a := 0x12 } 0xF0)) = (0x12, 0x80, 4) := by decide +kernel

/-- V-A16-1, V-A16-3, V-A16-7, V-A16-8. -/
theorem test_add_hl :
    (fun t : State => (t.hl, t.flagByte, t.cycles)) (run [0x09] { z with h := 0x8A, l := 0x23, b := 0x06, c := 0x05 }) = (0x9028, 0x20, 8)
    ∧ (fun t : State => (t.hl, t.flagByte)) (run [0x09] (withF { z with h := 0x0F, l := 0xFF, c := 0x01 } 0x80)) = (0x1000, 0x20)
    ∧ (fun t : State => (t.hl, t.flagByte)) (run [0x29] { z with h := 0x88 }) = (0x1000, 0x30)
    ∧ (fun t : State => (t.hl, t.flagByte)) (run [0x39] { z with l := 0x01, sp := 0xFFFF }) = (0x0000, 0x30) := by decide +kernel

/-- V-A16-11, V-A16-15, V-A16-18. -/
theorem test_add_sp :
    (fun t : State => (t.sp, t.flagByte, t.cycles)) (run [0xE8, 0xFF] (withF { z with sp := 0xD000 } 0xF0)) = (0xCFFF, 0x10, 16)
    ∧ (fun t : State => (t.sp, t.flagByte)) (run [0xE8, 0x80] { z with sp := 0x0080 }) = (0x0000, 0x30)
    ∧ (fun t : State => (t.hl, t.sp, t.flagByte, t.cycles)) (run [0xF8, 0xFF] { z with sp := 0xD000 }) = (0xCFFF, 0xD000, 0x10, 12) := by
  decide +kernel

/-- V-A16-20 to V-A16-25. -/
theorem test_inc_dec_word :
    (fun t : State => (t.bc, t.flagByte, t.cycles)) (run [0x03] (withF { z with b := 0x12, c := 0xFF } 0xF0)) = (0x1300, 0xF0, 8)
    ∧ (run [0x33] { z with sp := 0xFFFF }).sp = 0x0000 ∧ (run [0x2B] { z with h := 0x01 }).hl = 0x00FF
    ∧ (run [0x0B] z).bc = 0xFFFF ∧ (run [0x13] { z with d := 0xFF, e := 0xFF }).de = 0x0000 := by decide +kernel

/-- The table of vectors 2.3: the accumulator forms clear fZ. -/
theorem test_rotate_accumulator :
    af (run [0x07] (withF { z with a := 0x85 } 0xE0)) = (0x0B, 0x10, 4) ∧ af (run [0x0F] (withF { z with a := 0x85 } 0xE0)) = (0xC2, 0x10, 4)
    ∧ af (run [0x17] (withF { z with a := 0x80 } 0xE0)) = (0x00, 0x10, 4) ∧ af (run [0x1F] (withF { z with a := 0x01 } 0xF0)) = (0x80, 0x10, 4) := by
  decide +kernel

/-- The table of vectors 2.3: the prefixed forms, and V-ROT-1, V-ROT-2. -/
theorem test_rotate_prefixed :
    (fun t : State => (t.b, t.flagByte, t.cycles)) (run [0xCB, 0x10] (withF { z with b := 0x80 } 0xE0)) = (0x00, 0x90, 8)
    ∧ (fun t : State => (t.b, t.flagByte)) (run [0xCB, 0x08] { z with b := 0x01 }) = (0x80, 0x10)
    ∧ (fun t : State => (t.b, t.flagByte)) (run [0xCB, 0x18] (withF { z with b := 0x3C } 0xF0)) = (0x9E, 0x00)
    ∧ (fun t : State => (t.read8 0xC000, t.flagByte, t.cycles, t.pc)) (run [0xCB, 0x06] (withByte { z with h := 0xC0 } 0xC000 0x80))
        = (0x01, 0x10, 16, 0x0002) := by decide +kernel

theorem test_shift_prefixed :
    (fun t : State => (t.b, t.flagByte)) (run [0xCB, 0x20] { z with b := 0x85 }) = (0x0A, 0x10)
    ∧ (fun t : State => (t.b, t.flagByte)) (run [0xCB, 0x28] { z with b := 0x85 }) = (0xC2, 0x10)
    ∧ (fun t : State => (t.b, t.flagByte)) (run [0xCB, 0x38] { z with b := 0x01 }) = (0x00, 0x90)
    ∧ (fun t : State => (t.read8 0x4000, t.flagByte, t.cycles)) (run [0xCB, 0x36] (withF { z with h := 0x40 } 0x10)) = (0x00, 0x80, 16)
    ∧ (run [0xCB, 0x30] { z with b := 0x85 }).b = 0x58 := by decide +kernel

/-- V-BIT-2, V-BIT-4, V-BIT-10. -/
theorem test_bit :
    (fun t : State => (t.h, t.flagByte, t.cycles)) (run [0xCB, 0x7C] (withF { z with h := 0x7F } 0x10)) = (0x7F, 0xB0, 8)
    ∧ af (run [0xCB, 0x5F] (withF { z with a := 0x08 } 0xC0)) = (0x08, 0x20, 8)
    ∧ (fun t : State => (t.read8 0xC123, t.flagByte, t.cycles))
        (run [0xCB, 0x46] (withByte (withF { z with h := 0xC1, l := 0x23 } 0x10) 0xC123 0x01)) = (0x01, 0x30, 12) := by decide +kernel

/-- V-BIT-5, V-BIT-8, V-BIT-12, V-BIT-13. -/
theorem test_res_set :
    af (run [0xCB, 0x87] (withF { z with a := 0xFF } 0xF0)) = (0xFE, 0xF0, 8) ∧ (run [0xCB, 0xFD] { z with l := 0x01 }).l = 0x81
    ∧ (fun t : State => (t.read8 0xC123, t.flagByte, t.cycles))
        (run [0xCB, 0x86] (withByte (withF { z with h := 0xC1, l := 0x23 } 0x10) 0xC123 0xFF)) = (0xFE, 0x10, 16)
    ∧ (fun t : State => (t.read8 0xC123, t.cycles)) (run [0xCB, 0xFE] { z with h := 0xC1, l := 0x23 }) = (0x80, 16) := by decide +kernel

/-- V-LD-1, V-LD-4, V-LD-6, V-LD-7. -/
theorem test_ld_register :
    (fun t : State => (t.b, t.c, t.cycles)) (run [0x41] { z with b := 0x11, c := 0x22 }) = (0x22, 0x22, 4)
    ∧ (fun t : State => (t.hl, t.cycles)) (run [0x66] (withByte { z with h := 0xC0 } 0xC000 0x12)) = (0x1200, 8)
    ∧ (run [0x74] { z with h := 0xC0, l := 0x10 }).read8 0xC010 = 0xC0
    ∧ (fun t : State => (t.b, t.pc, t.cycles)) (run [0x06, 0xAB] z) = (0xAB, 0x0002, 8) := by decide +kernel

/-- V-LD-8 to V-LD-12: the mirror and `ROM` included. -/
theorem test_ld_memory :
    (fun t : State => (t.read8 0xFF80, t.cycles)) (run [0x36, 0x55] { z with h := 0xFF, l := 0x80 }) = (0x55, 12)
    ∧ (run [0x0A] (withByte { z with b := 0xE0 } 0xC000 0x31)).a = 0x31
    ∧ (run [0x12] { z with d := 0x20, a := 0x44 }).read8 0x2000 = 0x00
    ∧ (fun t : State => (t.a, t.pc, t.cycles)) (run [0xFA, 0x34, 0xC2] (withByte z 0xC234 0x9C)) = (0x9C, 0x0003, 16)
    ∧ (fun t : State => (t.read8 0xFE00, t.cycles)) (run [0xEA, 0x00, 0xFE] { z with a := 0x21 }) = (0x21, 16) := by decide +kernel

/-- V-LD-13 to V-LD-16, V-LD-22, V-LD-23. -/
theorem test_ldh :
    (fun t : State => (t.read8 0xFF80, t.cycles)) (run [0xE0, 0x80] { z with a := 0x3C }) = (0x3C, 12)
    ∧ (fun t : State => (t.a, t.cycles)) (run [0xF0, 0xFF] (withByte z 0xFFFF 0x1F)) = (0x1F, 12)
    ∧ (fun t : State => (t.read8 0xFF47, t.pc, t.cycles)) (run [0xE2] { z with a := 0xE4, c := 0x47 }) = (0xE4, 0x0001, 8)
    ∧ (fun t : State => (t.a, t.pc, t.cycles)) (run [0xF2] (withByte { z with c := 0x44 } 0xFF44 0x90)) = (0x90, 0x0001, 8)
    ∧ (run [0xE0, 0x04] (withByte { z with a := 0x77 } 0xFF04 0x33)).read8 0xFF04 = 0x00
    ∧ (fun t : State => (t.boot, t.read8 0xFF50)) (run [0xE0, 0x50] { z with a := 0x24 }) = (false, 0x00) := by decide +kernel

/-- V-LD-17 to V-LD-21. -/
theorem test_ld_moving_hl :
    (fun t : State => (t.read8 0xC0FF, t.hl, t.cycles)) (run [0x22] { z with h := 0xC0, l := 0xFF, a := 0x01 }) = (0x01, 0xC100, 8)
    ∧ (fun t : State => (t.read8 0xFFFF, t.hl)) (run [0x22] { z with h := 0xFF, l := 0xFF, a := 0x0F }) = (0x0F, 0x0000)
    ∧ (fun t : State => (t.a, t.hl)) (run [0x2A] (withByte { z with h := 0xC0 } 0xC000 0x5D)) = (0x5D, 0xC001)
    ∧ (run [0x32] { z with h := 0x9F, l := 0xFF }).hl = 0x9FFE
    ∧ (fun t : State => (t.a, t.hl)) (run [0x3A] z) = (0x3A, 0xFFFF) := by decide +kernel

/-- V-STK-5, V-STK-7, V-STK-8. -/
theorem test_ld_word :
    (fun t : State => (t.h, t.l, t.pc, t.cycles)) (run [0x21, 0x34, 0x12] z) = (0x12, 0x34, 0x0003, 12)
    ∧ (fun t : State => (t.read8 0xC100, t.read8 0xC101, t.cycles)) (run [0x08, 0x00, 0xC1] { z with sp := 0xABCD }) = (0xCD, 0xAB, 20)
    ∧ (fun t : State => (t.sp, t.cycles)) (run [0xF9] { z with h := 0xDF, l := 0xF0 }) = (0xDFF0, 8) := by decide +kernel

/-- V-STK-1, V-STK-3, V-STK-9. -/
theorem test_push :
    (fun t : State => (t.read8 0xFFFC, t.read8 0xFFFD, t.sp, t.cycles)) (run [0xC5] { z with sp := 0xFFFE, b := 0x12, c := 0x34 })
        = (0x34, 0x12, 0xFFFC, 16)
    ∧ (fun t : State => (t.read8 0xCFFE, t.read8 0xCFFF)) (run [0xF5] (withF { z with sp := 0xD000, a := 0x9A } 0xB0)) = (0xB0, 0x9A)
    ∧ (fun t : State => (t.read8 0xFFFF, t.sp)) (run [0xE5] { z with sp := 0x0001, h := 0xBE, l := 0xEF }) = (0xEF, 0xFFFF) := by
  decide +kernel

/-- V-STK-4, V-STK-10. -/
theorem test_pop :
    (fun t : State => (t.a, t.flagByte, t.sp, t.cycles)) (run [0xF1] (withByte (withByte { z with sp := 0xC000 } 0xC000 0xFF) 0xC001 0x12))
        = (0x12, 0xF0, 0xC002, 12)
    ∧ (fun t : State => (t.b, t.c, t.sp)) (run [0xC1] (withByte { z with sp := 0xFFFF } 0xFFFF 0x1B)) = (0xC1, 0x1B, 0x0001) := by
  decide +kernel

/-- V-CTL-1, V-CTL-2, V-CTL-3, V-CTL-17. -/
theorem test_jp :
    flow (run [0xC3, 0x50, 0x01] { z with pc := 0x0010 }) = (0x0150, 0x0000, 16)
    ∧ flow (run [0xCA, 0x00, 0x80] { z with pc := 0x0020, fZ := true }) = (0x8000, 0x0000, 16)
    ∧ flow (run [0xCA, 0x00, 0x80] { z with pc := 0x0020 }) = (0x0023, 0x0000, 12)
    ∧ flow (run [0xE9] { z with pc := 0x0010, h := 0xC0 }) = (0xC000, 0x0000, 4) := by decide +kernel

/-- V-CTL-8, V-CTL-10, V-CTL-12, V-CTL-13. -/
theorem test_jr :
    flow (run [0x18, 0xFB] { z with pc := 0x0010 }) = (0x000D, 0x0000, 12) ∧ flow (run [0x18, 0x80] { z with pc := 0x0010 }) = (0xFF92, 0x0000, 12)
    ∧ flow (run [0x20, 0xFD] { z with pc := 0x0011 }) = (0x0010, 0x0000, 12)
    ∧ flow (run [0x20, 0xFD] { z with pc := 0x0011, fZ := true }) = (0x0013, 0x0000, 8) := by decide +kernel

/-- V-CTL-18, V-CTL-19, V-CTL-33. -/
theorem test_call :
    flow (run [0xCD, 0x00, 0x20] { z with pc := 0x0050, sp := 0xD000 }) = (0x2000, 0xCFFE, 24)
    ∧ (run [0xCD, 0x00, 0x20] { z with pc := 0x0050, sp := 0xD000 }).read16 0xCFFE = 0x0053
    ∧ flow (run [0xDC, 0x00, 0x20] { z with pc := 0x0050, sp := 0xD000 }) = (0x0053, 0xD000, 12)
    ∧ flow (run [0xFF] { z with pc := 0x0080, sp := 0xD000 }) = (0x0038, 0xCFFE, 16) := by decide +kernel

/-- V-CTL-21, V-CTL-22, V-CTL-23, V-CTL-25. -/
theorem test_ret :
    let s : State := withByte (withByte { z with pc := 0x0060, sp := 0xCFFC } 0xCFFC 0x53) 0xCFFD 0x01
    flow (run [0xC9] s) = (0x0153, 0xCFFE, 16) ∧ flow (run [0xC0] s) = (0x0153, 0xCFFE, 20)
    ∧ flow (run [0xC0] { s with fZ := true }) = (0x0061, 0xCFFC, 8)
    ∧ flow (run [0xD9] s) = (0x0153, 0xCFFE, 16) ∧ (run [0xD9] s).ime = true := by decide +kernel

/-- V-SYS-4, V-SYS-6, and R270 to R274. -/
theorem test_system :
    flow (run [0x10, 0x00] z) = (0x0002, 0x0000, 4) ∧ (run [0x10, 0x00] z).stopped = true ∧ flow (run [0x76] z) = (0x0001, 0x0000, 4)
    ∧ (run [0x76] z).halted = true ∧ (run [0xFB] z).ime = true ∧ (run [0xF3] { z with ime := true }).ime = false
    ∧ flow (run [0x00] z) = (0x0001, 0x0000, 4) := by decide +kernel

/-- V-SYS-7: the payload of the decode fault, the latch, and that no stage after the CPU's runs. -/
theorem test_illegal_opcode :
    let s : State := withF { z with
      bios := bytesAt 0x10 [0x11, 0x22, 0xD3, 0x44, 0x55] [], pc := 0x0012, a := 0x01, b := 0x02, c := 0x03, d := 0x04, e := 0x05,
      h := 0x06, l := 0x07, sp := 0xFFFE } 0xA0
    let f : Fault := .decodeFault 0xD3 0x0012 (0x11, 0x22) (0x44, 0x55)
      { a := 0x01, f := 0xA0, b := 0x02, c := 0x03, d := 0x04, e := 0x05, h := 0x06, l := 0x07, sp := 0xFFFE, pc := 0x0013 }
    step s = .fault f ∧ s.afterStep.faulted = some f ∧ s.afterStep.direct DIV = 0x00 ∧ s.afterStep.pc = 0x0013 :=
  ⟨rfl, by decide +kernel⟩

/-- V-SYS-3: the step that wakes runs `INC A`, then interrupt 2 is delivered. -/
theorem test_halt_wakes :
    let s : State := withByte (withByte { z with
      bios := bytesAt 0 [0xFB, 0x76, 0x3C] [], pc := 0x0002, sp := 0xD000, ime := true, halted := true } 0xFF0F 0x04) 0xFFFF 0x04
    (fun t : State => (t.a, t.pc, t.sp, t.read16 0xCFFE, t.direct IF, t.ime, t.halted)) s.afterStep
      = (0x01, 0x0050, 0xCFFE, 0x0003, 0x00, false, false) := by decide +kernel

/-- V-SYS-1: nothing enabled is pending, and the machine stays halted. -/
theorem test_halt_stays :
    let s : State := { z with bios := bytesAt 0 [0x76, 0x3C] [], pc := 0x0001, halted := true }
    (fun t : State => (t.a, t.pc, t.halted, t.cycles, t.direct DIV)) s.afterStep = (0x00, 0x0001, true, 4, 0x04) := by decide +kernel

/-! ### Interrupts, the divider, the bus, the PPU -/

/-- V-INT-1 (the document's T9), V-INT-8, V-INT-9, V-INT-15. -/
theorem test_deliver :
    let d : Byte → Byte → State → State := fun i e s => (withByte (withByte s 0xFF0F i) 0xFFFF e).deliverIfPending.stateOr s
    let s : State := { z with pc := 0x1234, sp := 0xD000, ime := true }
    (fun t : State => (t.pc, t.sp, t.read16 0xCFFE, t.direct IF, t.ime)) (d 0x05 0x05 s) = (0x0040, 0xCFFE, 0x1234, 0x04, false)
    ∧ (fun t : State => (t.pc, t.direct IF)) (d 0xE2 0xFF s) = (0x0048, 0xE0)
    ∧ (d 0x10 0x10 s).faulted = some (.internalConsistencyFault 4 s.snapshot) ∧ (d 0x10 0x10 s).sp = 0xD000
    ∧ (fun t : State => (t.pc, t.sp, t.direct IE, t.direct IF)) (d 0x01 0x01 { s with pc := 0x0150, sp := 0x0001 })
        = (0x0040, 0xFFFF, 0x50, 0x00) := by decide +kernel

/-- V-INT-14. -/
theorem test_request :
    ((withByte z 0xFF0F 0x02).request 3).stateOr z = withByte z 0xFF0F 0x0A
    ∧ (z.request 4).outcome = .fault (.internalConsistencyFault 4 z.snapshot) := ⟨by decide +kernel, rfl⟩

/-- V-TIM-2, V-TIM-3. -/
theorem test_divider :
    ((withByte z 0xFF04 0xFC).timerAdvance 24).direct DIV = 0x14
    ∧ (withByte { z with bios := bytesAt 0 [0xE0, 0x04] [], a := 0x99 } 0xFF04 0x57).afterStep.direct DIV = 0x0C := by decide +kernel

/-- V-MEM-1, V-MEM-2, V-MEM-6. -/
theorem test_boot_overlay :
    let s : State := { z with
      bios := bytesAt 0xFF [0x22] (bytesAt 0 [0x11] []),
      rom := bytesAt 0x7FFF [0xDD] (bytesAt 0x100 [0xCC] (bytesAt 0xFF [0xBB] (bytesAt 0 [0xAA] []))) }
    let r : State → Byte × Byte × Byte × Byte := fun s => (s.read8 0x0000, s.read8 0x00FF, s.read8 0x0100, s.read8 0x7FFF)
    r s = (0x11, 0x22, 0xCC, 0xDD) ∧ r (s.write8 0xFF50 0x00) = (0xAA, 0xBB, 0xCC, 0xDD) ∧ (s.write8 0xFF50 0x00).boot = false
    ∧ s.write8 0x7FFF 0x99 = s := by decide +kernel

/-- V-MEM-3, V-MEM-4, V-MEM-5, V-MEM-10, V-MEM-11. -/
theorem test_mirror :
    (z.write8 0xE123 0x5A).mem = [(0xC123, 0x5A)] ∧ (z.write8 0xC123 0xA5).read8 0xE123 = 0xA5 ∧ z.write8 0xFEA0 0x77 = z
    ∧ (z.write8 0xDE00 0x02).read8 0xFE00 = 0x00 ∧ (z.write16 0xFDFF 0x1234).mem = [(0xDDFF, 0x34), (0xFE00, 0x12)]
    ∧ (z.write16 0xFFFF 0xABCD).mem = [(0xFFFF, 0xCD)] := by decide +kernel

/-- V-MEM-13 (the document's T10) at the ends of the range; the register itself stores nothing. -/
theorem test_dma :
    let t : State := ({ z with rom := bytesAt 0x129F [0xDE, 0x77] (bytesAt 0x1200 [0x01, 0x04] []) } : State).write8 0xFF46 0x12
    t.mem = [(0xFE00, 0x01), (0xFE01, 0x04), (0xFE9F, 0xDE)] := by decide +kernel

/-- V-PPU-1 (the document's T8). -/
theorem test_ppu_off :
    let t : State := State.ppuAdvance (fun _ _ => 0x00) (withByte (withByte { z with budget := 100 } 0xFF41 0xFF) 0xFF44 0x55) 24
    (t.direct LY, t.direct STAT, t.budget, t.direct IF) = (0x00, 0xFC, 100, 0x00) := by decide +kernel

/-- V-PPU-2: the modes at the ends of their ranges. -/
theorem test_ppu_modes :
    let s : State := withByte (withByte z 0xFF40 0x80) 0xFF45 0xFF
    let p : Nat → Byte × Nat × Byte := fun b =>
      (fun t : State => (t.direct STAT, t.budget, t.direct LY)) (State.ppuAdvance (fun _ _ => 0x00) { s with budget := b } 4)
    p 377 = (0x02, 373, 0x00) ∧ p 376 = (0x03, 372, 0x00) ∧ p 205 = (0x03, 201, 0x00) ∧ p 204 = (0x00, 200, 0x00) ∧ p 4 = (0x00, 0, 0x00) := by
  decide +kernel

/-- V-PPU-4, V-PPU-5, V-PPU-6: lines, entry interrupts and the coincidence. -/
theorem test_ppu_lines_and_interrupts :
    let adv : Byte → Nat → Byte → Byte → Byte × Byte × Byte := fun ly budget stat lyc =>
      (fun t : State => (t.direct LY, t.direct STAT, t.direct IF)) (State.ppuAdvance (fun _ _ => 0x00)
        (withByte (withByte (withByte (withByte { z with budget := budget } 0xFF40 0x80) 0xFF44 ly) 0xFF41 stat) 0xFF45 lyc) 4)
    adv 144 0 0x00 0xFF = (145, 0x01, 0x00) ∧ adv 153 0 0x00 0xFF = (0, 0x01, 0x00)
    ∧ adv 0 456 0x20 0xFF = (0, 0x22, 0x02) ∧ adv 0 456 0x22 0xFF = (0, 0x22, 0x00) ∧ adv 0 300 0x3A 0xFF = (0, 0x3B, 0x00)
    ∧ adv 0 100 0x0B 0xFF = (0, 0x08, 0x02) ∧ adv 144 456 0x10 0xFF = (144, 0x11, 0x02)
    ∧ adv 5 100 0x44 5 = (5, 0x44, 0x02) ∧ adv 5 100 0x44 6 = (5, 0x40, 0x00) := by decide +kernel

/-- V-PPU-4: the line that becomes 144 requests bit 0. -/
theorem test_ppu_vblank :
    (fun t : State => (t.direct LY, t.direct IF)) (withByte z 0xFF44 143 |>.setPending 0) = (143, 0x01)
    ∧ (State.ppuLine (fun _ _ => 0x00) (withByte { z with budget := 0 } 0xFF44 143) 4).direct IF = 0x01 := by decide +kernel

/-- The common setup of vectors 2.12. -/
def scene (lcdc bgp scx scy wx wy : Byte) : State :=
  { z with mem := bytesAt 0xFF47 [bgp] (bytesAt 0xFF4A [wy, wx] (bytesAt 0xFF42 [scy, scx] (bytesAt 0xFF40 [lcdc]
      (bytesAt 0x8010 [0x3C, 0x7E, 0xFF, 0x00] (bytesAt 0x9010 [0x00, 0xFF] (bytesAt 0x8800 [0xFF, 0xFF]
        (bytesAt 0x9800 [0x01, 0x80] (bytesAt 0x9C00 [0x80, 0x01] [])))))))) }

/-- The shades of the first pixels of a row. -/
def shadesOf (s : State) (y n : Nat) : List Nat := (List.range n).map fun x => (paletteShade (s.direct BGP) (colourIndex s y x)).toNat

/-- V-REN-1, V-REN-4, V-REN-5, V-REN-7, V-REN-8. -/
theorem test_background :
    shadesOf (scene 0x91 0xE4 0 0 0 0) 0 9 = [0, 2, 3, 3, 3, 3, 2, 0, 3] ∧ shadesOf (scene 0x91 0xE4 0 255 0 0) 1 4 = [0, 2, 3, 3]
    ∧ shadesOf (scene 0x91 0x1B 0 0 0 0) 0 8 = [3, 1, 0, 0, 0, 0, 1, 3] ∧ shadesOf (scene 0x81 0xE4 0 0 0 0) 0 9 = [2, 2, 2, 2, 2, 2, 2, 2, 3]
    ∧ shadesOf (scene 0x99 0xE4 0 0 0 0) 0 10 = [3, 3, 3, 3, 3, 3, 3, 3, 0, 2] := by decide +kernel

/-- V-REN-10, V-REN-11, V-REN-13, V-REN-14, V-REN-16. -/
theorem test_window :
    shadesOf (scene 0xB1 0xE4 0 0 11 0) 0 8 = [0, 2, 3, 3, 0, 2, 3, 3] ∧ shadesOf (scene 0xF1 0xE4 0 0 11 0) 0 8 = [0, 2, 3, 3, 3, 3, 3, 3]
    ∧ shadesOf (scene 0xF1 0xE4 0 0 7 1) 1 10 = [3, 3, 3, 3, 3, 3, 3, 3, 0, 2]
    ∧ shadesOf (scene 0xF1 0xE4 0 0 3 0) 0 8 = [3, 3, 3, 3, 0, 2, 3, 3]
    ∧ shadesOf (scene 0x91 0xE4 252 0 0 0) 0 8 = [0, 0, 0, 0, 0, 2, 3, 3] := by decide +kernel

/-- V-REN-17: where a pixel's bytes stand, with the shade's number in each of its bytes. -/
theorem test_rendered_bytes :
    let t : State := (scene 0x91 0xE4 0 0 0 0).renderLine (fun c j => BitVec.ofNat 8 (16 * c.toNat + j.val)) 0
    [t.fb.byte 0 0 0, t.fb.byte 0 1 0, t.fb.byte 0 1 3, t.fb.byte 0 2 1, t.fb.byte 1 0 0] = [0x00, 0x20, 0x23, 0x31, 0x00] := by
  decide +kernel

/-! ### The words of the opcode table -/

/-- R119: the second table's words are numbered with the prefix in the upper byte. -/
theorem test_table_words :
    decodeTableWord 8 0x41 = some .ld_B_C ∧ decodeTableWord 16 0xCB37 = some .swap_A ∧ decodeTableWord 24 0x123401 = some (.ld_BC_d16 0x1234)
    ∧ decodeTableWord 8 0x01 = some (.ld_BC_d16 0x0000) := by decide +kernel

/-- The step after `withFetchWord` runs the word's instruction, from reset and from working RAM. -/
theorem test_withFetchWord :
    (fun t : State => (t.b, t.pc)) (z.withFetchWord 16 0xAB06).afterStep = (0xAB, 0x0002)
    ∧ (fun t : State => (t.a, t.pc)) (({ z with a := 0x12, pc := 0xC000 } : State).withFetchWord 16 0xCB37).afterStep = (0x21, 0xC002)
    ∧ (({ z with pc := 0xFEA0, halted := true } : State).withFetchWord 8 0x3C).afterStep.a = 0x01 := by decide +kernel

/-! ### Hypotheses that can be met -/

theorem witness_DecodeOfEncode : (Instr.jp_NZ_a16 0xFFFF).wellFormed = true ∧ (Instr.set_7_A).wellFormed = true := by decide

theorem witness_EncodeOfDecode : decode [0xCB, 0xFF, 0x00] = .ok (.set_7_A, [0x00]) ∧ decode [0xD3] = .ok (.illegal_D3, []) := by decide +kernel

theorem witness_DecodeRejectsOnlyShortInput :
    decode [] = .error .noBytes ∧ decode [0x08, 0x00] = .error (.truncated 0x08) := by decide +kernel

/-- A running machine, an instruction that completes, and one that faults. -/
theorem witness_StepRunsTheDecodedInstruction :
    z.runState = .running ∧ decode [z.read8 z.pc, z.read8 (z.pc + 1), z.read8 (z.pc + 2)] = .ok (.nop, [0x00, 0x00])
    ∧ (∃ t, exec .nop { z with pc := 0x0001 } = .next t)
    ∧ ∃ f, decode [0xD3, 0x00, 0x00] = .ok (.illegal_D3, [0x00, 0x00]) ∧ exec .illegal_D3 { z with pc := 0x0001 } = .fault f :=
  ⟨by decide +kernel, by decide +kernel, ⟨_, rfl⟩, ⟨_, by decide +kernel, rfl⟩⟩

theorem witness_SuspendedStep :
    ({ z with stopped := true, halted := true } : State).runState = .stopped
    ∧ (let s : State := { z with halted := true }
       s.runState = .halted ∧ s.mem.read 0xFF0F &&& s.mem.read 0xFFFF = 0x00)
    ∧ (let s : State := withByte (withByte { z with halted := true } 0xFF0F 0x10) 0xFFFF 0x10
       s.runState = .halted ∧ s.mem.read 0xFF0F &&& s.mem.read 0xFFFF ≠ 0x00) := by decide +kernel

theorem witness_FaultIsFinal : ({ z with faulted := some (.internalConsistencyFault 4 z.snapshot) } : State).faulted
    = some (.internalConsistencyFault 4 z.snapshot) := rfl

/-- Both kinds of fault are raised by steps of machines that are not faulted. -/
theorem witness_FaultsOfAStep :
    (let s : State := z.place 0x0000 0xFD
     s.faulted = none ∧ step s = .fault (.decodeFault 0xFD 0x0000 (0x00, 0x00) (0x00, 0x00) { s.snapshot with pc := 0x0001 }))
    ∧ (let s : State := withByte (withByte { z with ime := true } 0xFF0F 0x80) 0xFFFF 0x80
       s.faulted = none ∧ step s = .fault (.internalConsistencyFault 7 { s.snapshot with pc := 0x0001 })) :=
  ⟨⟨rfl, rfl⟩, ⟨rfl, rfl⟩⟩

/-- The step of the machine after reset, with the display off. -/
theorem witness_step_next : ∃ t, step State.reset = .next t := ⟨_, (by rfl : step State.reset = .next State.reset.afterStep)⟩

/-- The boundaries of the ranges of a bus read, of an ignored, a mirrored and a storing write. -/
theorem witness_bus_ranges :
    ((0x7FFF : Word).toNat < 0x8000 ∧ (0x00FF : Word).toNat ≤ 0x00FF) ∧ (0xE000 ≤ (0xE000 : Word).toNat ∧ (0xFDFF : Word).toNat ≤ 0xFDFF)
    ∧ (0xFEA0 ≤ (0xFEA0 : Word).toNat ∧ (0xFEFF : Word).toNat ≤ 0xFEFF) ∧ (0x8000 ≤ (0x8000 : Word).toNat ∧ (0xDFFF : Word).toNat ≤ 0xDFFF)
    ∧ (0xFE00 ≤ (0xFE00 : Word).toNat ∧ (0xFE9F : Word).toNat ≤ 0xFE9F)
    ∧ (0xFF00 ≤ (0xFFFF : Word).toNat ∧ (0xFFFF : Word) ≠ 0xFF04 ∧ (0xFFFF : Word) ≠ 0xFF46 ∧ (0xFFFF : Word) ≠ 0xFF50) := by decide

/-- The values of the model at those boundaries. -/
theorem witness_BusReads :
    let s : State := { z with bios := [(0xFF, 0x22)], rom := [(0x00FF, 0xBB), (0x0100, 0xCC), (0x7FFF, 0xDD)], mem := [(0x8000, 0x01), (0xC000, 0x02), (0xDDFF, 0x03), (0xFFFF, 0x04)] }
    [s.read8 0x00FF, s.read8 0x0100, s.read8 0x7FFF, s.read8 0x8000, s.read8 0xE000, s.read8 0xFDFF, s.read8 0xFEA0, s.read8 0xFEFF, s.read8 0xFFFF]
      = [0x22, 0xCC, 0xDD, 0x01, 0x02, 0x03, 0x00, 0x00, 0x04] := by decide +kernel

theorem witness_WordRoundTrip :
    storing 0xFDFF = true ∧ storing (0xFDFF + 1) = true ∧ storing 0xFFFF = true ∧ storing 0x8000 = true ∧ storing 0xFE9F = true
    ∧ storing 0xFEA0 = false ∧ storing 0xFF04 = false ∧ storing 0xFF03 = true := by decide

theorem witness_PushThenPop : let s : State := { z with sp := 0x0000 }
    storing (s.sp - 2) = true ∧ storing (s.sp - 1) = true := by decide

/-- Each line of the statement. -/
theorem witness_LoadFromMemory :
    ((.ld_H_mHL : Instr) = Form.ldRegMem .h ∧ z.hl = 0x0000 ∧ ([0x66] : List Byte) = [0x46 + 8 * Reg8.h.field])
    ∧ (z.bc = 0x0000 ∧ z.de = 0x0000 ∧ ([0xFA, 0xFF, 0x80] : List Byte) = [0xFA, BitVec.ofNat 8 (0x80FF : Word).toNat, BitVec.ofNat 8 ((0x80FF : Word).toNat / 256)])
    ∧ (∃ n : Byte, Instr.ldh_A_ma8 0xFF = .ldh_A_ma8 n ∧ (0xFFFF : Word) = 0xFF00 + n.setWidth 16)
    ∧ (0xFF00 : Word) = 0xFF00 + z.c.setWidth 16 :=
  ⟨by decide +kernel, by decide +kernel, ⟨0xFF, rfl, rfl⟩, rfl⟩

theorem witness_StoreByte :
    (∃ src, Instr.ld_mHL_L = Form.ldMemReg src ∧ (0x0000 : Word) = z.hl ∧ (0x00 : Byte) = z.reg src ∧ ([0x75] : List Byte) = [0x70 + src.field])
    ∧ (∃ n : Byte, Instr.ldh_ma8_A 0x00 = .ldh_ma8_A n ∧ (0xFF00 : Word) = 0xFF00 + n.setWidth 16 ∧ (0x00 : Byte) = z.a)
    ∧ (0xFF00 : Word) = 0xFF00 + z.c.setWidth 16 :=
  ⟨⟨.l, rfl, rfl, rfl, rfl⟩, ⟨0x00, rfl, rfl, rfl⟩, rfl⟩

/-- `ADC A,E`, and the immediate form. -/
theorem witness_AddToAccumulator :
    (∃ x, Instr.adc_A_E = Form.aluOperand .adc x ∧ (0x00 : Byte) = z.operand x ∧ ([0x8B] : List Byte) = [0x80 + 8 * Alu.adc.field + x.field] ∧ 4 = x.cost 4 8)
    ∧ Instr.add_A_d8 0xFF = Form.aluImm .add 0xFF ∧ ([0xC6, 0xFF] : List Byte) = [0xC6 + 8 * Alu.add.field, 0xFF] :=
  ⟨⟨.reg .e, rfl, rfl, rfl, rfl⟩, rfl, rfl⟩

/-- `CP (HL)`, and the immediate form of `SBC`. -/
theorem witness_SubtractFromAccumulator :
    (∃ x, Instr.cp_mHL = Form.aluOperand .cp x ∧ (0x00 : Byte) = z.operand x ∧ ([0xBE] : List Byte) = [0x80 + 8 * Alu.cp.field + x.field] ∧ 8 = x.cost 4 8)
    ∧ Instr.sbc_A_d8 0x01 = Form.aluImm .sbc 0x01 ∧ ([0xDE, 0x01] : List Byte) = [0xC6 + 8 * Alu.sbc.field, 0x01] :=
  ⟨⟨.memHL, rfl, rfl, rfl, rfl⟩, rfl, rfl⟩

/-- `XOR A`, and the immediate form of `OR`. -/
theorem witness_LogicOnAccumulator :
    (∃ x, Instr.xor_A = Form.aluOperand .xor x ∧ (0x00 : Byte) = z.operand x ∧ ([0xAF] : List Byte) = [0x80 + 8 * Alu.xor.field + x.field] ∧ 4 = x.cost 4 8)
    ∧ Instr.or_d8 0x80 = Form.aluImm .or 0x80 ∧ ([0xF6, 0x80] : List Byte) = [0xC6 + 8 * Alu.or.field, 0x80] :=
  ⟨⟨.reg .a, rfl, rfl, rfl, rfl⟩, rfl, rfl⟩

theorem witness_DecimalArithmetic :
    (99 < 100 ∧ 1 < 100) ∧ ({ z with a := 0x99 } : State).a = BitVec.ofNat 8 (16 * (99 / 10) + 99 % 10)
    ∧ (∃ t, exec (.add_A_d8 (BitVec.ofNat 8 (16 * (1 / 10) + 1 % 10))) { z with a := 0x99 } = .next t)
    ∧ ∃ t, exec (.sub_d8 (BitVec.ofNat 8 (16 * (1 / 10) + 1 % 10))) { z with a := 0x99 } = .next t :=
  ⟨by decide, rfl, ⟨_, rfl⟩, ⟨_, rfl⟩⟩

theorem witness_RotateAccumulator : (Rot.rr = .rr ∧ (Instr.rra : Instr) = .rra ∧ (0x1F : Byte) = 0x1F) ∧ Rot.rr.value 0x01 true = (0x80, true) := by decide

/-- Each condition, holding and not: the premises of the jumps, the calls and the returns. -/
theorem witness_Jumps :
    ((Cond.nz = .nz ∧ true = !z.fZ) ∧ (Cond.z = .z ∧ false = z.fZ)) ∧ ((Cond.nc = .nc ∧ false = !(withF z 0x10).fC) ∧ (Cond.c = .c ∧ true = (withF z 0x10).fC)) := by
  decide

theorem witness_Calls :
    (∃ cc, Instr.call_Z_a16 0x2000 = Form.callCond cc 0x2000 ∧ cc = .z ∧ (withF z 0x80).fZ = true ∧ ([0xCC, 0x00, 0x20] : List Byte) = [0xC4 + 8 * cc.field, 0x00, 0x20])
    ∧ ∃ y : Fin 8, Instr.rst_38 = Form.rst y ∧ (0x0038 : Word) = BitVec.ofNat 16 (8 * y.val) ∧ ([0xFF] : List Byte) = [0xC7 + 8 * BitVec.ofNat 8 y.val] :=
  ⟨⟨.z, rfl, rfl, rfl, rfl⟩, ⟨7, rfl, rfl, rfl⟩⟩

/-- The premise of a return or call that is not taken, for each condition. -/
theorem witness_TransfersNotTaken :
    (Cond.nz = .nz ∧ (withF z 0x80).fZ = true) ∧ (Cond.z = .z ∧ z.fZ = false) ∧ (Cond.nc = .nc ∧ (withF z 0x10).fC = true) ∧ (Cond.c = .c ∧ z.fC = false) := by
  decide

/-- The premise of a return that is taken, for each condition. -/
theorem witness_ReturnsAndTransfersNotTaken :
    (Cond.nz = .nz ∧ z.fZ = false) ∧ (Cond.z = .z ∧ (withF z 0x80).fZ = true) ∧ (Cond.nc = .nc ∧ z.fC = false) ∧ (Cond.c = .c ∧ (withF z 0x10).fC = true) := by
  decide

theorem witness_IllegalOpcodesFault : (Instr.illegal_FD).illegalOpcode = some 0xFD := rfl

theorem witness_EveryLegalInstructionCompletes :
    (Instr.nop).illegalOpcode = none ∧ (Instr.nop ≠ .ei ∧ Instr.nop ≠ .di ∧ Instr.nop ≠ .reti ∧ Instr.nop ≠ .halt) := by decide

theorem witness_RequestInterrupt : z.faulted = none ∧ 3 ≤ 3 ∧ 3 < 4 := by decide

/-- The lowest pending enabled bit is 3. -/
theorem witness_DeliverInterrupt :
    let s : State := withByte (withByte { z with ime := true } 0xFF0F 0x08) 0xFFFF 0x0F
    s.faulted = none ∧ s.ime = true ∧ 3 ≤ 3 ∧ (s.mem.read 0xFF0F &&& s.mem.read 0xFFFF).getLsbD 3 = true
    ∧ ∀ k, k < 3 → (s.mem.read 0xFF0F &&& s.mem.read 0xFFFF).getLsbD k = false := by decide +kernel

/-- The lowest pending enabled bit is 4. -/
theorem witness_DeliverNothingOrFault :
    (z.faulted = none ∧ z.ime = false)
    ∧ (let s : State := withByte (withByte { z with ime := true } 0xFF0F 0x10) 0xFFFF 0xFF
       s.faulted = none ∧ 3 < 4 ∧ s.ime = true ∧ (s.mem.read 0xFF0F &&& s.mem.read 0xFFFF).getLsbD 4 = true
       ∧ ∀ k, k < 4 → (s.mem.read 0xFF0F &&& s.mem.read 0xFFFF).getLsbD k = false) := by decide +kernel

theorem witness_PpuDisabled : (z.mem.read 0xFF40).getLsbD 7 = false := rfl

/-- No underflow at 4 of 4 cycles, underflow at 4 of 3. -/
theorem witness_PpuLineAdvance : 4 ≤ ({ z with budget := 4 } : State).budget ∧ ({ z with budget := 3 } : State).budget < 4 := by decide

theorem witness_PpuCoincidence : ((withByte z 0xFF40 0x80).mem.read 0xFF40).getLsbD 7 = true := by decide +kernel

theorem witness_RenderedPixel : z.fb.wf = true ∧ 143 < 144 ∧ 159 < 160 := by decide +kernel

theorem witness_HostActions : ({ z with stopped := true } : State).faulted = none ∧ ({ z with stopped := true } : State).halted = false := by decide

/-- A state that is not the reset state, with memory and a budget in use. -/
theorem witness_InvariantKeptByEveryStep :
    ({ z with a := 0x01, mem := [(0xC000, 0x05), (0xFF40, 0x80)], rom := [(0x0100, 0x3C)], budget := 0, boot := false } : State).Inv :=
  ⟨by decide, by decide, by decide, by decide, by decide, by decide +kernel, by intro a h; cases h⟩

end Sys2Proof.Tests
end

section
/-!
SUPPORT. The outcome of a system step (spec/00_scope.md R11): what the host is told, and the state that is left, from how the
stages of the step end.
-/

namespace Sys2Proof.Machine

theorem step_of_systemStep_ok {s t : State} (h : s.systemStep = .ok t) : step s = .next t := by
  rw [step, h, Stage.outcome]

theorem step_of_systemStep_raised {s t : State} {f : Fault} (h : s.systemStep = .raised f t) : step s = .fault f := by
  rw [step, h, Stage.outcome]

theorem State.afterStep_of_systemStep_raised {s t : State} {f : Fault} (h : s.systemStep = .raised f t) : s.afterStep = t := by
  rw [State.afterStep, h, Stage.stateOr]

/-- R303: a system step never declines, and a fault it ends in is latched, whether the step raised it or found it latched. -/
theorem State.systemStep_ok_or_latched (s : State) :
    (∃ t, s.systemStep = .ok t) ∨ ∃ f t, s.systemStep = .raised f t ∧ t.faulted = some f := by
  rcases s.systemStep_cases with ⟨f, latched, e⟩ | ⟨_, u, op, _, _, e⟩ | ⟨_, t, _, _, _, _, _, e | ⟨b, _, e⟩ | ⟨b, _, _, e⟩⟩
  · exact .inr ⟨f, s, e, latched⟩
  · exact .inr ⟨_, _, e, State.latch_faulted _ _⟩
  · exact .inl ⟨_, e⟩
  · exact .inl ⟨_, e⟩
  · exact .inr ⟨_, _, e, State.latch_faulted _ _⟩

/-- Settles O9: the stages of a step end in a state or in a latched fault, and the outcome says which. -/
theorem stepGivesNextOrLatchedFault : Obligations.StepGivesNextOrLatchedFault := by
  intro s
  rcases s.systemStep_ok_or_latched with ⟨t, ok⟩ | ⟨f, t, raised, latched⟩
  · exact .inl ⟨t, step_of_systemStep_ok ok⟩
  · have left : s.afterStep = t := State.afterStep_of_systemStep_raised raised
    exact .inr ⟨f, step_of_systemStep_raised raised, by rw [left, latched]⟩

end Sys2Proof.Machine
end

section
/-!
SUPPORT. The state that a system step leaves (spec/60_exceptions.md R300, R303): the invariant holds of it whatever the outcome,
and a step with a next state keeps the images and never sets `boot`.
-/

namespace Sys2Proof.Machine

/-! ### The invariant over a whole step -/

/-- R304: the latch keeps the invariant for every fault but the addressing fault, which nothing raises (R82). -/
theorem State.Inv.latch {s : State} (h : s.Inv) {f : Fault} (hf : ∀ a, f ≠ .addressingFault a) : (s.latch f).Inv :=
  ⟨h.mem, h.unwritten, h.bios, h.rom, h.budget, h.fb, fun a e => hf a (Option.some.inj e)⟩

theorem State.Inv.pastInstruction {s : State} (h : s.Inv) : s.pastInstruction.Inv := (s.kept_setPc _).inv h

theorem State.Inv.wake {s : State} (h : s.Inv) : ({ s with halted := false } : State).Inv := h.congr rfl rfl rfl rfl rfl rfl

theorem State.afterStep_of_systemStep_ok {s t : State} (h : s.systemStep = .ok t) : s.afterStep = t := by
  rw [State.afterStep, h, Stage.stateOr]

/-- The invariant goes through the fetch, the instruction, the two advances, the taking of an interrupt, and the latch of each of
the two faults a step can raise. -/
theorem State.Inv.afterStep {s : State} (h : s.Inv) : s.afterStep.Inv := by
  rcases s.systemStep_cases with
    ⟨f, _, e⟩ | ⟨_, u, op, woken, _, e⟩ | ⟨_, t, _, kept, _, advanced, _, e | ⟨b, _, e⟩ | ⟨b, _, _, e⟩⟩
  · rw [State.afterStep_of_systemStep_raised e]
    exact h
  · have hu : u.Inv := by
      rcases woken with rfl | rfl
      · exact h
      · exact h.wake
    rw [State.afterStep_of_systemStep_raised e]
    exact hu.pastInstruction.latch (fun _ => Fault.noConfusion)
  · rw [State.afterStep_of_systemStep_ok e]
    exact advanced.inv (kept.inv h)
  · rw [State.afterStep_of_systemStep_ok e]
    exact (State.kept_takeInterrupt _ b).inv (advanced.inv (kept.inv h))
  · rw [State.afterStep_of_systemStep_raised e]
    exact (advanced.inv (kept.inv h)).latch (fun _ => Fault.noConfusion)

/-! ### A step with a next state -/

theorem systemStep_of_step_next {s t : State} (h : step s = .next t) : s.systemStep = .ok t := by
  rw [step] at h
  generalize s.systemStep = o at h ⊢
  cases o with
  | ok u =>
    cases h
    rfl
  | raised f u => cases h
  | declined r => cases h

/-- R300: the next state is what the instruction `t`, the advances and at most one taken interrupt give. -/
theorem step_next_cases {s u : State} (h : step s = .next u) :
    ∃ t, s.Kept t ∧ legalCount t.cycles ∧ t.Advanced t.advanceDevices
      ∧ (u = t.advanceDevices ∨ ∃ b, b ≤ 3 ∧ u = t.advanceDevices.takeInterrupt b) := by
  have ok : s.systemStep = .ok u := systemStep_of_step_next h
  rcases s.systemStep_cases with
    ⟨f, _, e⟩ | ⟨_, v, op, _, _, e⟩ | ⟨_, t, _, kept, count, advanced, _, e | ⟨b, hb, e⟩ | ⟨b, _, _, e⟩⟩
  · cases ok.symm.trans e
  · cases ok.symm.trans e
  · exact ⟨t, kept, count, advanced, .inl (Stage.ok.inj (ok.symm.trans e))⟩
  · exact ⟨t, kept, count, advanced, .inr ⟨b, hb, Stage.ok.inj (ok.symm.trans e)⟩⟩
  · cases ok.symm.trans e

/-- `t` has the images of `s`, and `boot` only if `s` has it (R35, R71). -/
structure State.ImagesKept (s t : State) : Prop where
  bios : t.bios = s.bios
  rom : t.rom = s.rom
  boot : t.boot = true → s.boot = true

theorem State.ImagesKept.trans {s t u : State} (h : s.ImagesKept t) (k : t.ImagesKept u) : s.ImagesKept u :=
  ⟨k.bios.trans h.bios, k.rom.trans h.rom, h.boot ∘ k.boot⟩

theorem State.Kept.imagesKept {s t : State} (h : s.Kept t) : s.ImagesKept t := ⟨h.bios, h.rom, h.boot⟩

theorem State.Advanced.imagesKept {s t : State} (h : s.Advanced t) : s.ImagesKept t :=
  ⟨by rw [h.eq], by rw [h.eq], fun on => by rw [h.eq] at on; exact on⟩

theorem imagesKept_of_step_next {s u : State} (h : step s = .next u) : s.ImagesKept u := by
  obtain ⟨t, kept, _, advanced, rfl | ⟨b, _, rfl⟩⟩ := step_next_cases h
  · exact kept.imagesKept.trans advanced.imagesKept
  · exact (kept.imagesKept.trans advanced.imagesKept).trans (State.kept_takeInterrupt _ b).imagesKept

/-- Settles O15: the state left after a step has the invariant, and a next state is the state left. -/
theorem invariantKeptByEveryStep : Obligations.InvariantKeptByEveryStep := by
  intro s h
  refine ⟨h.afterStep, fun t next => ?_⟩
  have left : s.afterStep = t := State.afterStep_of_systemStep_ok (systemStep_of_step_next next)
  exact left ▸ h.afterStep

/-- Settles O12: none of the instruction, the advances and the delivery touches an image or sets `boot`. -/
theorem imagesAreImmutable : Obligations.ImagesAreImmutable := by
  intro s t next
  obtain ⟨bios, rom, boot⟩ := imagesKept_of_step_next next
  exact ⟨bios, rom, boot⟩

end Sys2Proof.Machine
end

section
/-!
SUPPORT. The three mode flags that an instruction may write (spec/10_state.md R30, R31): what the shared operations leave of them,
and from that what `exec` leaves.
-/

namespace Sys2Proof.Machine

/-- R30: `ime`, `halted` and `stopped`. -/
def State.modes (s : State) : Bool × Bool × Bool := (s.ime, s.halted, s.stopped)

@[simp] theorem State.modes_setReg (s : State) (r : Reg8) (v : Byte) : (s.setReg r v).modes = s.modes := by simp [State.modes]

@[simp] theorem State.modes_setPair (s : State) (p : Pair) (w : Word) : (s.setPair p w).modes = s.modes := by simp [State.modes]

@[simp] theorem State.modes_setStackPair (s : State) (q : StackPair) (w : Word) : (s.setStackPair q w).modes = s.modes := by
  simp [State.modes]

@[simp] theorem State.modes_setFlags (s : State) (z n h c : Bool) : (s.setFlags z n h c).modes = s.modes := rfl

@[simp] theorem State.modes_setPc (s : State) (w : Word) : (s.setPc w).modes = s.modes := rfl

@[simp] theorem State.modes_setSp (s : State) (w : Word) : (s.setSp w).modes = s.modes := rfl

@[simp] theorem State.modes_write8 (s : State) (a : Word) (v : Byte) : (s.write8 a v).modes = s.modes := by simp [State.modes]

@[simp] theorem State.modes_write16 (s : State) (a w : Word) : (s.write16 a w).modes = s.modes := by simp [State.modes]

@[simp] theorem State.modes_setOperand (s : State) (x : Operand8) (v : Byte) : (s.setOperand x v).modes = s.modes := by
  cases x with
  | reg r => exact s.modes_setReg r v
  | memHL => exact s.modes_write8 s.hl v

@[simp] theorem State.modes_dropTop (s : State) : s.dropTop.modes = s.modes := rfl

@[simp] theorem State.modes_push16 (s : State) (w : Word) : (s.push16 w).modes = s.modes := by simp [State.push16]

@[simp] theorem State.modes_call (s : State) (w : Word) : (s.call w).modes = s.modes := by simp [State.call]

@[simp] theorem State.modes_ret (s : State) : s.ret.modes = s.modes := by simp [State.ret]

/-- A next state, where `o` gives one, has the modes of `s`. -/
def KeepsModes (s : State) (o : Host.Outcome State Fault Refusal) : Prop := ∀ t, o = .next t → t.modes = s.modes

theorem keepsModes_fault (s : State) (f : Fault) : KeepsModes s (.fault f) := fun _ e => by cases e

theorem keepsModes_finish {op : Byte} {p k : Bool} {s t : State} (h : t.modes = s.modes) : KeepsModes s (finish op p k t) := by
  intro u e
  cases e
  exact h

variable (op : Byte) (s : State)

theorem keepsModes_accumulate (o : Alu) (v : Byte) : KeepsModes s (accumulate op o v s) := by
  refine keepsModes_finish ((State.modes_setFlags _ _ _ _ _).trans ?_)
  split
  · exact s.modes_setReg _ _
  · rfl

theorem keepsModes_prefixed : KeepsModes s (prefixed op s) := by
  simp only [prefixed]
  split <;> exact keepsModes_finish (by simp)

theorem keepsModes_jumpIf (cc : Cond) (w : Word) : KeepsModes s (jumpIf op cc w s) := by
  simp only [jumpIf]
  split
  · exact keepsModes_finish (s.modes_setPc w)
  · exact keepsModes_finish rfl

theorem keepsModes_callIf (cc : Cond) (w : Word) : KeepsModes s (callIf op cc w s) := by
  simp only [callIf]
  split
  · exact keepsModes_finish (s.modes_call w)
  · exact keepsModes_finish rfl

theorem keepsModes_returnIf (cc : Cond) : KeepsModes s (returnIf op cc s) := by
  simp only [returnIf]
  split
  · exact keepsModes_finish s.modes_ret
  · exact keepsModes_finish rfl

/-- R31, R271, R272, R316: the instructions that write a mode flag. -/
def WritesMode (i : Instr) : Prop := i = .ei ∨ i = .di ∨ i = .reti ∨ i = .halt ∨ ∃ pad, i = .stop pad

/-- The five instructions of `WritesMode` aside, an instruction faults, or branches, or is one `finish` of operations that leave
the modes. -/
theorem exec_keepsModes (i : Instr) (s : State) : WritesMode i ∨ KeepsModes s (exec i s) := by
  induction i using Instr.form_cases
  case h_ei => exact .inl (.inl rfl)
  case h_di => exact .inl (.inr (.inl rfl))
  case h_reti => exact .inl (.inr (.inr (.inl rfl)))
  case h_halt => exact .inl (.inr (.inr (.inr (.inl rfl))))
  case h_stop pad => exact .inl (.inr (.inr (.inr (.inr ⟨pad, rfl⟩))))
  all_goals right
  case hIllegal i op illegal => rw [exec_illegal illegal]; exact keepsModes_fault s _
  case hAluOperand o x => rw [exec_aluOperand]; exact keepsModes_accumulate _ s o _
  case hAluImm o n => rw [exec_aluImm]; exact keepsModes_accumulate _ s o n
  case hJpCond cc w => rw [exec_jpCond]; exact keepsModes_jumpIf _ s cc w
  case hJrCond cc e => rw [exec_jrCond]; exact keepsModes_jumpIf _ s cc _
  case hCallCond cc w => rw [exec_callCond]; exact keepsModes_callIf _ s cc w
  case hRetCond cc => rw [exec_retCond]; exact keepsModes_returnIf _ s cc
  case h_prefix_CB op2 => exact keepsModes_prefixed op2 s
  case hLdRegReg | hLdRegMem | hLdMemReg | hLdRegImm | hLdPairImm | hPush | hPop | hInc8 | hDec8 | hAddHL | hInc16 | hDec16 | hRot
      | hBit | hRes | hSet | hRst =>
    simp only [exec_ldRegReg, exec_ldRegMem, exec_ldMemReg, exec_ldRegImm, exec_ldPairImm, exec_push, exec_pop, exec_inc8, exec_dec8,
      exec_addHL, exec_inc16, exec_dec16, exec_rot, exec_bit, exec_res, exec_set, exec_rst]
    exact keepsModes_finish (by simp)
  all_goals exact keepsModes_finish (by simp)

/-- R31, R316: what an instruction that completes leaves of each mode flag. -/
theorem exec_next_modes {i : Instr} {s t : State} (next : exec i s = .next t) :
    (i ≠ .ei → i ≠ .di → i ≠ .reti → t.ime = s.ime) ∧ (i ≠ .halt → t.halted = s.halted)
      ∧ ((∀ pad, i ≠ .stop pad) → t.stopped = s.stopped) := by
  rcases exec_keepsModes i s with (rfl | rfl | rfl | rfl | ⟨pad, rfl⟩) | keeps
  · cases next
    exact ⟨fun ei => absurd rfl ei, fun _ => rfl, fun _ => rfl⟩
  · cases next
    exact ⟨fun _ di => absurd rfl di, fun _ => rfl, fun _ => rfl⟩
  · cases next
    exact ⟨fun _ _ reti => absurd rfl reti, fun _ => rfl, fun _ => rfl⟩
  · cases next
    exact ⟨fun _ _ _ => rfl, fun halt => absurd rfl halt, fun _ => rfl⟩
  · cases next
    exact ⟨fun _ _ _ => rfl, fun _ => rfl, fun stop => absurd rfl (stop pad)⟩
  · have modes : (t.ime, t.halted, t.stopped) = (s.ime, s.halted, s.stopped) := keeps t next
    simp only [Prod.mk.injEq] at modes
    obtain ⟨ime, halted, stopped⟩ := modes
    exact ⟨fun _ _ _ => ime, fun _ => halted, fun _ => stopped⟩

/-- R303, D37: an instruction that is not one of the eleven completes. -/
theorem exec_next_of_legal {i : Instr} (legal : i.illegalOpcode = none) (s : State) : ∃ t, exec i s = .next t ∧ s.Kept t := by
  rcases exec_effect i s with ⟨op, illegal, _⟩ | effect
  · cases legal.symm.trans illegal
  · generalize exec i s = o at effect ⊢
    cases o with
    | next t => exact ⟨t, rfl, effect.1⟩
    | fault f => exact effect.elim
    | refused r => exact effect.elim

/-- Settles O49: completion and the frame are those of every legal instruction's effect, and the modes are a case split over the
five instructions that write one. -/
theorem everyLegalInstructionCompletes : Obligations.EveryLegalInstructionCompletes := by
  intro i s legal
  obtain ⟨t, next, kept⟩ := exec_next_of_legal legal s
  exact ⟨t, next, kept.bios, kept.rom, kept.fb, kept.budget, kept.faulted, kept.boot, exec_next_modes next⟩

end Sys2Proof.Machine
end

section
/-!
SUPPORT. The registers and their views (spec/10_state.md R20 to R23), and the state after reset (R55, R380).
-/

namespace Sys2Proof.Machine

/-! ### Registers and pairs -/

/-- R20: a register read after a register write. -/
theorem State.reg_setReg (s : State) (r q : Reg8) (v : Byte) : (s.setReg r v).reg q = if q = r then v else s.reg q := by
  cases r with
  | a => cases q <;> rfl
  | b => cases q <;> rfl
  | c => cases q <;> rfl
  | d => cases q <;> rfl
  | e => cases q <;> rfl
  | h => cases q <;> rfl
  | l => cases q <;> rfl

/-- R20: a register write changes nothing but registers. -/
theorem State.setReg_frame (s : State) (r : Reg8) (v : Byte) :
    { s.setReg r v with a := s.a, b := s.b, c := s.c, d := s.d, e := s.e, h := s.h, l := s.l } = s := by
  cases r <;> rfl

/-- Settles O16: a read after a write, for each register written and each read; the write's frame, for each written. -/
theorem registersAreIndependent : Obligations.RegistersAreIndependent :=
  fun s r q v => ⟨s.reg_setReg r q v, s.setReg_frame r v⟩

/-- R21: the flags stand in bits 7 to 4, and bits 3 to 0 are zero. -/
theorem State.toNat_flagByte (s : State) :
    s.flagByte.toNat = 128 * s.fZ.toNat + 64 * s.fN.toNat + 32 * s.fH.toNat + 16 * s.fC.toNat := by
  simp only [State.flagByte]
  cases s.fZ <;> cases s.fN <;> cases s.fH <;> cases s.fC <;> rfl

theorem State.toNat_af (s : State) :
    s.af.toNat = 256 * s.a.toNat + 128 * s.fZ.toNat + 64 * s.fN.toNat + 32 * s.fH.toNat + 16 * s.fC.toNat := by
  rw [State.af, toNat_cat, State.toNat_flagByte]
  omega

theorem State.setPair_bc (s : State) (w : Word) :
    s.setPair .bc w = { s with b := BitVec.ofNat 8 (w.toNat / 256), c := BitVec.ofNat 8 w.toNat } := by
  simp only [State.setPair, hi_eq, lo_eq]

theorem State.setPair_de (s : State) (w : Word) :
    s.setPair .de w = { s with d := BitVec.ofNat 8 (w.toNat / 256), e := BitVec.ofNat 8 w.toNat } := by
  simp only [State.setPair, hi_eq, lo_eq]

theorem State.setStackPair_af (s : State) (w : Word) :
    s.setStackPair .af w
      = { s with a := BitVec.ofNat 8 (w.toNat / 256), fZ := w.getLsbD 7, fN := w.getLsbD 6, fH := w.getLsbD 5, fC := w.getLsbD 4 } := by
  simp only [State.setStackPair, hi_eq]

/-- Settles O17: a pair reads as its two bytes joined and is written as the two halves; the low nibble of `AF` is zero because
every flag's weight is a multiple of 16. -/
theorem pairsAreViews : Obligations.PairsAreViews := by
  intro s w
  have nibble : s.af.toNat % 16 = 0 := by
    rw [State.toNat_af]
    omega
  exact ⟨toNat_cat s.b s.c, toNat_cat s.d s.e, toNat_cat s.h s.l, s.toNat_af, nibble, s.setPair_bc w, s.setPair_de w,
    s.setPair_hl w, s.setStackPair_af w⟩

/-! ### Reset -/

theorem reset_fb_length : State.reset.fb.length = 144 := List.length_replicate

/-- D4: every row of the frame buffer after reset is 640 zeros. -/
theorem row_of_mem_reset_fb {row : List Byte} (h : row ∈ State.reset.fb) : row = List.replicate 640 0x00 := List.eq_of_mem_replicate h

theorem reset_fb_wf : State.reset.fb.wf = true := by
  simp only [FrameBuffer.wf, Bool.and_eq_true, beq_iff_eq, List.all_eq_true]
  refine ⟨reset_fb_length, fun row mem => ?_⟩
  rw [row_of_mem_reset_fb mem, List.length_replicate]

/-- Settles O14: the three memories are empty lists, the budget is the bound itself, and nothing is latched. -/
theorem invariantAtReset : Obligations.InvariantAtReset where
  mem := rfl
  unwritten := rfl
  bios := rfl
  rom := rfl
  budget := Nat.le_refl 456
  fb := reset_fb_wf
  fault := fun _ latched => nomatch latched

/-- Settles O59: construction is the reset state with the two images put in. -/
theorem resetState : Obligations.ResetState := by
  intro bios rom s
  have registers : ∀ r, s.reg r = 0x00 := by
    intro r
    cases r <;> rfl
  have rows : ∀ row ∈ s.fb, row.length = 640 ∧ ∀ v ∈ row, v = 0x00 := by
    intro row mem
    rw [row_of_mem_reset_fb mem]
    exact ⟨List.length_replicate, fun _ => List.eq_of_mem_replicate⟩
  exact ⟨registers, rfl, rfl, rfl, rfl, rfl, rfl, rfl, rfl, rfl, rfl, rfl, Memory.read_nil, rfl, reset_fb_length, rows, rfl, rfl, rfl⟩

end Sys2Proof.Machine
end

section
/-!
SUPPORT. The bus as spec/20_memory.md states it, range by range: the bytes of `Mem` that its addresses name, the writes that
store, the block copy and the divider, the 16-bit accesses and the stack.
-/

namespace Sys2Proof.Machine

/-! ### Addresses -/

/-- R65, R69: the address 0x2000 below the mirror does not wrap. -/
theorem toNat_sub_0x2000 {a : Word} (low : 0xE000 ≤ a.toNat) : (a - 0x2000).toNat = a.toNat - 0x2000 :=
  BitVec.toNat_sub_of_le (BitVec.le_def.2 (Nat.le_trans (by decide) low))

theorem canonical_of_mirror {a : Word} (low : 0xE000 ≤ a.toNat) (high : a.toNat ≤ 0xFDFF) : canonical a = a.toNat - 0x2000 :=
  if_pos ⟨low, by omega⟩

theorem canonical_of_not_mirror {a : Word} (h : a.toNat < 0xE000 ∨ 0xFE00 ≤ a.toNat) : canonical a = a.toNat :=
  if_neg (by omega)

/-- R65, R69: an address of the mirror and the one 0x2000 lower name one byte. -/
theorem canonical_sub_0x2000 {a : Word} (low : 0xE000 ≤ a.toNat) (high : a.toNat ≤ 0xFDFF) :
    canonical (a - 0x2000) = canonical a := by
  have down := toNat_sub_0x2000 low
  rw [canonical_of_mirror low high, canonical_of_not_mirror (by omega), down]

theorem storing_iff {a : Word} :
    storing a = true ↔ ((0x8000 ≤ a.toNat ∧ a.toNat < 0xFEA0) ∨ 0xFF00 ≤ a.toNat) ∧ a ≠ 0xFF04 ∧ a ≠ 0xFF46 ∧ a ≠ 0xFF50 := by
  simp only [storing, Bool.and_eq_true, decide_eq_true_eq, bne_iff_ne, and_assoc]

/-- R40: every side effect of a write is at an address of 0xFF00 and above. -/
theorem storing_of_ram {a : Word} (low : 0x8000 ≤ a.toNat) (high : a.toNat < 0xFEA0) : storing a = true :=
  storing_iff.2 ⟨.inl ⟨low, high⟩, by bv_omega, by bv_omega, by bv_omega⟩

/-! ### Reads -/

/-- R62: outside the mirror a read at 0x8000 and above is of the byte of `Mem` at the address itself. -/
theorem State.read8_mem (s : State) {a : Word}
    (h : (0x8000 ≤ a.toNat ∧ a.toNat ≤ 0xDFFF) ∨ (0xFE00 ≤ a.toNat ∧ a.toNat ≤ 0xFE9F) ∨ 0xFF00 ≤ a.toNat) :
    s.read8 a = s.mem.read a.toNat := by
  rw [State.read8_high s (by omega) (by omega), canonical_of_not_mirror (by omega)]

theorem State.read8_mirror (s : State) {a : Word} (low : 0xE000 ≤ a.toNat) (high : a.toNat ≤ 0xFDFF) :
    s.read8 a = s.mem.read (a.toNat - 0x2000) := by
  rw [State.read8_high s (by omega) (by omega), canonical_of_mirror low high]

/-- Settles O18: one clause for each group of the regions of R61. -/
theorem busReads : Obligations.BusReads := by
  intro s a
  refine ⟨fun low => ?_, fun low high => ⟨s.read8_mirror low high, ?_⟩, fun low high => s.read8_unusable low (by omega), s.read8_mem⟩
  · rw [State.read8_low s low]
    simp only [Nat.lt_succ_iff]
  · have down := toNat_sub_0x2000 low
    rw [State.read8_mirror s low high, State.read8_mem s (.inl (by omega)), down]

/-! ### One-byte writes -/

/-- R69: a write to the mirror is the write 0x2000 lower. -/
theorem State.write8_mirror (s : State) {a : Word} (v : Byte) (low : 0xE000 ≤ a.toNat) (high : a.toNat ≤ 0xFDFF) :
    s.write8 a v = s.write8 (a - 0x2000) v := by
  have down := toNat_sub_0x2000 low
  rw [State.write8_storing s v (storing_of_ram (by omega) (by omega)), State.write8_storing s v (storing_of_ram (by omega) (by omega)),
    canonical_sub_0x2000 low high]

/-- R70: 0xDE00 to 0xDFFF would be mirrored at 0xFE00 to 0xFFFF, past the end of the mirror. -/
theorem reached_mirror_of_unmirrored {a k : Word} (low : 0xDE00 ≤ a.toNat) (high : a.toNat ≤ 0xDFFF)
    (klow : 0xE000 ≤ k.toNat) (khigh : k.toNat ≤ 0xFDFF) : reached a k = false := by
  have apart : canonical k ≠ canonical a := by
    rw [canonical_of_mirror klow khigh, canonical_of_not_mirror (by omega)]
    omega
  rw [reached, if_pos (storing_of_ram (by omega) (by omega)), decide_eq_false apart]

/-- Settles O19: the ignored writes, the mirror as the byte 0x2000 lower, and the part of working RAM that no mirror address names. -/
theorem busWritesIgnoredOrMirrored : Obligations.BusWritesIgnoredOrMirrored := by
  intro s a v
  refine ⟨fun low => s.write8_ignored v (.inl low), fun low high => s.write8_ignored v (.inr ⟨low, by omega⟩),
    fun low high => ⟨s.write8_mirror v low high, ?_, ?_⟩,
    fun low high k klow khigh => s.sameOutside_write8 a v k (reached_mirror_of_unmirrored low high klow khigh)⟩
  · have down := toNat_sub_0x2000 low
    exact s.read8_write8_storing v (storing_of_ram (by omega) (by omega)) (canonical_sub_0x2000 low high) (by omega) (by omega)
  · exact s.read8_write8_storing v (storing_of_ram (by omega) (by omega)) rfl (by omega) (by omega)

/-- `Mem[k] <- v` changes that byte and nothing else. -/
theorem State.setDirect_spec (s : State) (k : Nat) (v : Byte) :
    ∃ m, s.setDirect k v = { s with mem := m } ∧ m.read k = v ∧ ∀ j, j ≠ k → m.read j = s.mem.read j :=
  ⟨s.mem.write k v, rfl, Memory.read_write_same _ _ _, fun _ => Memory.read_write_ne _ v⟩

/-- Settles O20: at these addresses the write is the direct store at the address itself. -/
theorem busWritesThatStore : Obligations.BusWritesThatStore := by
  intro s a v h
  have stores : storing a = true := by
    rcases h with ⟨low, high⟩ | ⟨low, high⟩ | ⟨low, special⟩
    · exact storing_of_ram low (by omega)
    · exact storing_of_ram (by omega) (by omega)
    · exact storing_iff.2 ⟨.inr low, special⟩
  rw [State.write8_storing s v stores, canonical_of_not_mirror (by omega)]
  exact s.setDirect_spec a.toNat v

/-- Settles O22: the write is the direct store of 0x00 at the divider. -/
theorem dividerReset : Obligations.DividerReset := by
  intro s v
  rw [State.write8_div]
  exact s.setDirect_spec DIV 0x00

/-! ### The block copy -/

/-- R72: the source of byte `i` of the copy from page `v`, as a number. -/
theorem dmaSource_eq (v : Byte) (i : Nat) : cat v 0x00 + BitVec.ofNat 16 i = BitVec.ofNat 16 (256 * v.toNat + i) := by
  have page : cat v 0x00 = BitVec.ofNat 16 (256 * v.toNat) := by
    have := v.isLt
    apply BitVec.eq_of_toNat_eq
    rw [toNat_cat, BitVec.toNat_ofNat, Nat.mod_eq_of_lt (by omega)]
    rfl
  rw [page, BitVec.ofNat_add]

/-- Settles O23: the copy byte by byte, its source addresses as numbers. -/
theorem dmaCopy : Obligations.DmaCopy := by
  intro s v
  obtain ⟨m, copied, inside, outside⟩ := s.dma_spec v
  refine ⟨m, by rw [State.write8_dma, copied], fun i lt => ?_, fun k apart => outside k (by omega)⟩
  rw [inside i lt, dmaSource_eq]

/-! ### The end of boot mode -/

/-- R71: once `boot` is clear, a read below 0x8000 is of `ROM`. -/
theorem State.read8_rom (s : State) (off : s.boot = false) {a : Word} (low : a.toNat < 0x8000) : s.read8 a = s.rom.read a.toNat := by
  rw [State.read8_low s low, if_neg (by simp [off])]

theorem State.imagesKept_latch (s : State) (f : Fault) : s.ImagesKept (s.latch f) := ⟨rfl, rfl, id⟩

/-- R35, R71: the state a step leaves keeps the images, and has `boot` only if it was set before, whatever the outcome. -/
theorem State.imagesKept_afterStep (s : State) : s.ImagesKept s.afterStep := by
  rcases s.systemStep_cases with
    ⟨f, _, e⟩ | ⟨_, u, op, woken, _, e⟩ | ⟨_, t, _, kept, _, advanced, _, e | ⟨b, _, e⟩ | ⟨b, _, _, e⟩⟩
  · rw [State.afterStep_of_systemStep_raised e]
    exact (State.Kept.refl s).imagesKept
  · have fetching : s.ImagesKept u := by
      rcases woken with rfl | rfl
      · exact (State.Kept.refl u).imagesKept
      · exact ⟨rfl, rfl, id⟩
    rw [State.afterStep_of_systemStep_raised e]
    exact (fetching.trans (u.kept_setPc _).imagesKept).trans (State.imagesKept_latch _ _)
  · rw [State.afterStep_of_systemStep_ok e]
    exact kept.imagesKept.trans advanced.imagesKept
  · rw [State.afterStep_of_systemStep_ok e]
    exact (kept.imagesKept.trans advanced.imagesKept).trans (State.kept_takeInterrupt _ b).imagesKept
  · rw [State.afterStep_of_systemStep_raised e]
    exact (kept.imagesKept.trans advanced.imagesKept).trans (State.imagesKept_latch _ _)

/-- Settles O21: the write clears `boot` alone, a read with `boot` clear is of `ROM`, and no step sets it. -/
theorem bootModeDisable : Obligations.BootModeDisable := by
  intro s v w
  refine ⟨s.write8_boot v, by rw [State.write8_boot, State.write8_boot], fun a low => ?_, fun off => ?_⟩
  · rw [State.write8_boot, State.read8_rom _ rfl (by omega)]
  · have on := s.imagesKept_afterStep.boot
    rw [off] at on
    exact Bool.eq_false_iff.2 fun h => Bool.false_ne_true (on h)

/-! ### 16-bit accesses and the stack -/

/-- R74: the word read, as a number. -/
theorem State.toNat_read16 (s : State) (a : Word) : (s.read16 a).toNat = 256 * (s.read8 (a + 1)).toNat + (s.read8 a).toNat :=
  toNat_cat _ _

/-- Settles O24: the bytes are the halves of the word, and the frame is the frame of the two writes. -/
theorem wordRoundTrip : Obligations.WordRoundTrip := by
  intro s addr w low high
  obtain ⟨readLow, readHigh, readWord⟩ := s.read16_write16 addr w low high
  exact ⟨readLow.trans (lo_eq w), readHigh.trans (hi_eq w), readWord, s.sameOutside_write16 addr w⟩

@[simp] theorem State.push16_sp (s : State) (w : Word) : (s.push16 w).sp = s.sp - 2 := by rw [State.push16_eq, State.write16_sp]

/-- Settles O25: a push is a word written at the new `SP`, which the round trip of a word reads back. -/
theorem pushThenPop : Obligations.PushThenPop := by
  intro s w
  refine ⟨s.push16_eq w, s.toNat_read16 s.sp, rfl, fun low high => ?_⟩
  have next : s.sp - 2 + 1 = s.sp - 1 := by bv_omega
  obtain ⟨readLow, readHigh, readWord, _⟩ := wordRoundTrip { s with sp := s.sp - 2 } (s.sp - 2) w low (by rw [next]; exact high)
  rw [State.dropTop_sp, State.top16, State.push16_sp, s.push16_eq w]
  exact ⟨readLow, readHigh, readWord, BitVec.sub_add_cancel _ _⟩

end Sys2Proof.Machine
end

section
/-!
SUPPORT. The encoder on the forms (spec/30_encoding.md R104 to R111): an opcode is its form's base and the numbers of the fields.
-/

namespace Sys2Proof

open Machine

theorem encode_ldRegReg (dst src : Reg8) : encode (Form.ldRegReg dst src) = [0x40 + 8 * dst.field + src.field] := by
  cases dst <;> cases src <;> rfl

theorem encode_ldRegMem (dst : Reg8) : encode (Form.ldRegMem dst) = [0x46 + 8 * dst.field] := by cases dst <;> rfl

theorem encode_ldMemReg (src : Reg8) : encode (Form.ldMemReg src) = [0x70 + src.field] := by cases src <;> rfl

theorem encode_ldRegImm (dst : Reg8) (n : Byte) : encode (Form.ldRegImm dst n) = [0x06 + 8 * dst.field, n] := by cases dst <;> rfl

theorem encode_ldPairImm (p : Pair) (w : Word) : encode (Form.ldPairImm p w) = [0x01 + 16 * p.field, lo w, hi w] := by
  cases p <;> rfl

theorem encode_push (q : StackPair) : encode (Form.push q) = [0xC5 + 16 * q.field] := by cases q <;> rfl

theorem encode_pop (q : StackPair) : encode (Form.pop q) = [0xC1 + 16 * q.field] := by cases q <;> rfl

theorem encode_aluOperand (o : Alu) (x : Operand8) : encode (Form.aluOperand o x) = [0x80 + 8 * o.field + x.field] := by
  rcases x with r | _
  · cases o <;> cases r <;> rfl
  · cases o <;> rfl

theorem encode_aluImm (o : Alu) (n : Byte) : encode (Form.aluImm o n) = [0xC6 + 8 * o.field, n] := by cases o <;> rfl

theorem encode_inc8 (x : Operand8) : encode (Form.inc8 x) = [0x04 + 8 * x.field] := by
  rcases x with r | _
  · cases r <;> rfl
  · rfl

theorem encode_dec8 (x : Operand8) : encode (Form.dec8 x) = [0x05 + 8 * x.field] := by
  rcases x with r | _
  · cases r <;> rfl
  · rfl

theorem encode_addHL (p : Pair) : encode (Form.addHL p) = [0x09 + 16 * p.field] := by cases p <;> rfl

theorem encode_inc16 (p : Pair) : encode (Form.inc16 p) = [0x03 + 16 * p.field] := by cases p <;> rfl

theorem encode_dec16 (p : Pair) : encode (Form.dec16 p) = [0x0B + 16 * p.field] := by cases p <;> rfl

theorem encode_rot (o : Rot) (x : Operand8) : encode (Form.rot o x) = [0xCB, 8 * o.field + x.field] := by
  rcases x with r | _
  · cases o <;> cases r <;> rfl
  · cases o <;> rfl

theorem encode_bit (b : Fin 8) (x : Operand8) : encode (Form.bit b x) = [0xCB, 0x40 + 8 * BitVec.ofNat 8 b.val + x.field] := by
  rcases x with r | _
  · fin_cases b <;> cases r <;> rfl
  · fin_cases b <;> rfl

theorem encode_res (b : Fin 8) (x : Operand8) : encode (Form.res b x) = [0xCB, 0x80 + 8 * BitVec.ofNat 8 b.val + x.field] := by
  rcases x with r | _
  · fin_cases b <;> cases r <;> rfl
  · fin_cases b <;> rfl

theorem encode_set (b : Fin 8) (x : Operand8) : encode (Form.set b x) = [0xCB, 0xC0 + 8 * BitVec.ofNat 8 b.val + x.field] := by
  rcases x with r | _
  · fin_cases b <;> cases r <;> rfl
  · fin_cases b <;> rfl

theorem encode_jpCond (cc : Cond) (w : Word) : encode (Form.jpCond cc w) = [0xC2 + 8 * cc.field, lo w, hi w] := by cases cc <;> rfl

theorem encode_jrCond (cc : Cond) (e : Byte) : encode (Form.jrCond cc e) = [0x20 + 8 * cc.field, e] := by cases cc <;> rfl

theorem encode_callCond (cc : Cond) (w : Word) : encode (Form.callCond cc w) = [0xC4 + 8 * cc.field, lo w, hi w] := by
  cases cc <;> rfl

theorem encode_retCond (cc : Cond) : encode (Form.retCond cc) = [0xC0 + 8 * cc.field] := by cases cc <;> rfl

theorem encode_rst (y : Fin 8) : encode (Form.rst y) = [0xC7 + 8 * BitVec.ofNat 8 y.val] := by fin_cases y <;> rfl

end Sys2Proof
end

section
/-!
SUPPORT. Decoding what the encoder writes (spec/30_encoding.md R101, R114): one rule for each shape of an encoding, then every form
by the rule of its shape.
-/

namespace Sys2Proof

open Machine

/-! ### The shapes -/

/-- `i` is read back from its encoding, whatever bytes follow. -/
def Instr.ReadsBack (i : Instr) : Prop := ∀ rest : List Byte, decode (encode i ++ rest) = .ok (i, rest)

theorem Instr.ReadsBack.ofOpcode {i : Instr} {op : Byte} (spelled : encode i = [op]) (read : ∀ n m, decodeBytes op n m = (i, 1)) :
    i.ReadsBack := fun rest => by
  simp [spelled, decode, read]

theorem Instr.ReadsBack.ofOperand {i : Instr} {op n : Byte} (spelled : encode i = [op, n]) (read : ∀ m, decodeBytes op n m = (i, 2)) :
    i.ReadsBack := fun rest => by
  simp [spelled, decode, read]

theorem Instr.ReadsBack.ofWord {i : Instr} {op : Byte} {w : Word} (spelled : encode i = [op, lo w, hi w]) (plain : op ≠ 0xCB)
    (read : decodePrimary op (lo w) w = (i, 3)) : i.ReadsBack := fun rest => by
  simp [spelled, decode, decodeBytes_word plain, read]

theorem Instr.ReadsBack.ofPrefixed {i : Instr} {op2 : Byte} (spelled : encode i = [0xCB, op2]) (read : decodeCB op2 = i) :
    i.ReadsBack := fun rest => by
  rw [spelled, List.cons_append, List.cons_append, List.nil_append, decode_prefixed, read]

/-! ### The second table, and the illegal opcodes -/

theorem decodeCB_rot (o : Rot) (x : Operand8) : decodeCB (8 * o.field + x.field) = Form.rot o x := by
  rcases x with r | _
  · cases o <;> cases r <;> rfl
  · cases o <;> rfl

theorem decodeCB_bit (b : Fin 8) (x : Operand8) : decodeCB (0x40 + 8 * BitVec.ofNat 8 b.val + x.field) = Form.bit b x := by
  rcases x with r | _
  · fin_cases b <;> cases r <;> rfl
  · fin_cases b <;> rfl

theorem decodeCB_res (b : Fin 8) (x : Operand8) : decodeCB (0x80 + 8 * BitVec.ofNat 8 b.val + x.field) = Form.res b x := by
  rcases x with r | _
  · fin_cases b <;> cases r <;> rfl
  · fin_cases b <;> rfl

theorem decodeCB_set (b : Fin 8) (x : Operand8) : decodeCB (0xC0 + 8 * BitVec.ofNat 8 b.val + x.field) = Form.set b x := by
  rcases x with r | _
  · fin_cases b <;> cases r <;> rfl
  · fin_cases b <;> rfl

theorem encode_illegal {i : Instr} {op : Byte} (h : i.illegalOpcode = some op) : encode i = [op] := by
  unfold Instr.illegalOpcode at h
  split at h <;> cases h <;> rfl

theorem decodeBytes_illegal {i : Instr} {op : Byte} (h : i.illegalOpcode = some op) (n m : Byte) : decodeBytes op n m = (i, 1) := by
  unfold Instr.illegalOpcode at h
  split at h <;> cases h <;> rfl

/-! ### Every instruction -/

/-- R224: the row of the byte 0xCB alone is not read back; its bytes are read as an entry of the second table. -/
theorem Instr.readsBack {i : Instr} (legal : i.wellFormed = true) : i.ReadsBack := by
  induction i using Instr.form_cases with
  | hLdRegReg dst src => exact .ofOpcode (encode_ldRegReg dst src) fun _ _ => by cases dst <;> cases src <;> rfl
  | hLdRegMem dst => exact .ofOpcode (encode_ldRegMem dst) fun _ _ => by cases dst <;> rfl
  | hLdMemReg src => exact .ofOpcode (encode_ldMemReg src) fun _ _ => by cases src <;> rfl
  | hLdRegImm dst n => exact .ofOperand (encode_ldRegImm dst n) fun _ => by cases dst <;> rfl
  | hLdPairImm p w => exact .ofWord (encode_ldPairImm p w) (by cases p <;> decide) (by cases p <;> rfl)
  | hPush q => exact .ofOpcode (encode_push q) fun _ _ => by cases q <;> rfl
  | hPop q => exact .ofOpcode (encode_pop q) fun _ _ => by cases q <;> rfl
  | hAluOperand o x =>
    refine .ofOpcode (encode_aluOperand o x) fun _ _ => ?_
    rcases x with r | _
    · cases o <;> cases r <;> rfl
    · cases o <;> rfl
  | hAluImm o n => exact .ofOperand (encode_aluImm o n) fun _ => by cases o <;> rfl
  | hInc8 x =>
    refine .ofOpcode (encode_inc8 x) fun _ _ => ?_
    rcases x with r | _
    · cases r <;> rfl
    · rfl
  | hDec8 x =>
    refine .ofOpcode (encode_dec8 x) fun _ _ => ?_
    rcases x with r | _
    · cases r <;> rfl
    · rfl
  | hAddHL p => exact .ofOpcode (encode_addHL p) fun _ _ => by cases p <;> rfl
  | hInc16 p => exact .ofOpcode (encode_inc16 p) fun _ _ => by cases p <;> rfl
  | hDec16 p => exact .ofOpcode (encode_dec16 p) fun _ _ => by cases p <;> rfl
  | hRot o x => exact .ofPrefixed (encode_rot o x) (decodeCB_rot o x)
  | hBit b x => exact .ofPrefixed (encode_bit b x) (decodeCB_bit b x)
  | hRes b x => exact .ofPrefixed (encode_res b x) (decodeCB_res b x)
  | hSet b x => exact .ofPrefixed (encode_set b x) (decodeCB_set b x)
  | hJpCond cc w => exact .ofWord (encode_jpCond cc w) (by cases cc <;> decide) (by cases cc <;> rfl)
  | hJrCond cc e => exact .ofOperand (encode_jrCond cc e) fun _ => by cases cc <;> rfl
  | hCallCond cc w => exact .ofWord (encode_callCond cc w) (by cases cc <;> decide) (by cases cc <;> rfl)
  | hRetCond cc => exact .ofOpcode (encode_retCond cc) fun _ _ => by cases cc <;> rfl
  | hRst y => exact .ofOpcode (encode_rst y) fun _ _ => by fin_cases y <;> rfl
  | hIllegal i op h => exact .ofOpcode (encode_illegal h) (decodeBytes_illegal h)
  | h_prefix_CB op2 => cases legal
  | h_ld_ma16_SP w | h_jp_a16 w | h_call_a16 w | h_ld_ma16_A w | h_ld_A_ma16 w => exact .ofWord rfl (by decide) rfl
  | h_stop n | h_jr_e8 n | h_ld_mHL_d8 n | h_ldh_ma8_A n | h_add_SP_e8 n | h_ldh_A_ma8 n | h_ld_HL_SPe8 n =>
    exact .ofOperand rfl fun _ => rfl
  | h_nop | h_ld_mBC_A | h_rlca | h_ld_A_mBC | h_rrca | h_ld_mDE_A | h_rla | h_ld_A_mDE | h_rra | h_ld_mHLinc_A | h_daa
  | h_ld_A_mHLinc | h_cpl | h_ld_mHLdec_A | h_scf | h_ld_A_mHLdec | h_ccf | h_halt | h_ret | h_reti | h_ld_mC_A | h_jp_HL
  | h_ld_A_mC | h_di | h_ld_SP_HL | h_ei => exact .ofOpcode rfl fun _ _ => rfl

/-- Settles O1, by the form of the instruction: the bytes of each form are read by the branch of the decoder that gives it. -/
theorem decodeOfEncode : Obligations.DecodeOfEncode := fun _ rest legal => Instr.readsBack legal rest

end Sys2Proof
end

section
/-!
SUPPORT. Encoding what the decoder reads (spec/30_encoding.md R101, R104, R113): each entry of the opcode tables has one length, and
gives an instruction whose bytes are the bytes read.
-/

namespace Sys2Proof

open Machine

/-! ### The primary table, entry by entry -/

/-- R104: the byte whose fields are `x`, `y` and `z`. -/
def opcodeByte (x : Nat) (y z : Fin 8) : Byte := BitVec.ofNat 8 (64 * x + 8 * y.val + z.val)

theorem opcodeByte_fields (op : Byte) : opcodeByte (fieldX op) (fieldY op) (fieldZ op) = op := by
  apply BitVec.eq_of_toNat_eq
  simp only [opcodeByte, fieldX, fieldY, fieldZ, Fin.ofNat, BitVec.toNat_ofNat]
  omega

theorem fieldX_lt (op : Byte) : fieldX op < 4 := by
  simp only [fieldX]
  omega

/-- The opcode `op` has the entry `entry`, from the byte and the word after it to an instruction and its length. The length is one
for all of them, and so many of the bytes read are the encoding; only the entry of 0xCB is no instruction (R224). -/
structure Spells (op : Byte) (entry : Byte → Word → Instr × Nat) : Prop where
  positive : 1 ≤ (entry 0 0).2
  atMostThree : (entry 0 0).2 ≤ 3
  constant : ∀ n w, (entry n w).2 = (entry 0 0).2
  wellFormed : ∀ n w, (entry n w).1.wellFormed = (op != 0xCB)
  bytes : ∀ w, encode (entry (lo w) w).1 = [op, lo w, hi w].take (entry 0 0).2

theorem decodeX0_spells (y z : Fin 8) : Spells (opcodeByte 0 y z) (decodeX0 y z) := by
  fin_cases z <;> fin_cases y <;> exact ⟨by decide, by decide, fun _ _ => rfl, fun _ _ => rfl, fun _ => rfl⟩

theorem decodeX1_spells (y z : Fin 8) : Spells (opcodeByte 1 y z) fun _ _ => decodeX1 y z := by
  fin_cases z <;> fin_cases y <;> exact ⟨by decide, by decide, fun _ _ => rfl, fun _ _ => rfl, fun _ => rfl⟩

theorem decodeX2_spells (y z : Fin 8) : Spells (opcodeByte 2 y z) fun _ _ => (Form.aluOperand (aluOf y) (operandOf z), 1) := by
  fin_cases z <;> fin_cases y <;> exact ⟨by decide, by decide, fun _ _ => rfl, fun _ _ => rfl, fun _ => rfl⟩

theorem decodeX3_spells (y z : Fin 8) : Spells (opcodeByte 3 y z) (decodeX3 y z) := by
  fin_cases z <;> fin_cases y <;> exact ⟨by decide, by decide, fun _ _ => rfl, fun _ _ => rfl, fun _ => rfl⟩

theorem decodePrimary_spells (op : Byte) : Spells op (decodePrimary op) := by
  have fields := opcodeByte_fields op
  have quarter := fieldX_lt op
  show Spells op fun n w => decodePrimary op n w
  simp only [decodePrimary]
  generalize fieldX op = x, fieldY op = y, fieldZ op = z at fields quarter
  subst fields
  match x, quarter with
  | 0, _ => exact decodeX0_spells y z
  | 1, _ => exact decodeX1_spells y z
  | 2, _ => exact decodeX2_spells y z
  | 3, _ => exact decodeX3_spells y z

/-! ### The second table -/

theorem decodeCB_fields (x : Fin 4) (y z : Fin 8) :
    (decodeCB (opcodeByte x y z)).wellFormed = true ∧ encode (decodeCB (opcodeByte x y z)) = [0xCB, opcodeByte x y z] := by
  fin_cases x <;> fin_cases z <;> fin_cases y <;> exact ⟨rfl, rfl⟩

theorem decodeCB_spells (op2 : Byte) : (decodeCB op2).wellFormed = true ∧ encode (decodeCB op2) = [0xCB, op2] := by
  have entry := decodeCB_fields ⟨fieldX op2, fieldX_lt op2⟩ (fieldY op2) (fieldZ op2)
  rwa [opcodeByte_fields] at entry

/-! ### Three bytes -/

theorem decodeBytes_CB (n m : Byte) : decodeBytes 0xCB n m = (decodeCB n, 2) := rfl

theorem decodeBytes_plain {op : Byte} (plain : op ≠ 0xCB) (n m : Byte) : decodeBytes op n m = decodePrimary op n (cat m n) := if_neg plain

/-- R101: the length is known from the first byte. -/
theorem decodeBytes_length (op n m : Byte) : (decodeBytes op n m).2 = (decodeBytes op 0 0).2 := by
  by_cases plain : op = 0xCB
  · rw [plain, decodeBytes_CB, decodeBytes_CB]
  · rw [decodeBytes_plain plain, decodeBytes_plain plain]
    exact (decodePrimary_spells op).constant _ _

theorem decodeBytes_length_bounds (op n m : Byte) : 1 ≤ (decodeBytes op n m).2 ∧ (decodeBytes op n m).2 ≤ 3 := by
  rw [decodeBytes_length]
  by_cases plain : op = 0xCB
  · rw [plain, decodeBytes_CB]
    decide
  · exact decodeBytes_plain plain 0 0 ▸ ⟨(decodePrimary_spells op).positive, (decodePrimary_spells op).atMostThree⟩

/-- R113: every first byte, and every byte after 0xCB, is an instruction or an illegal opcode. -/
theorem decodeBytes_wellFormed (op n m : Byte) : (decodeBytes op n m).1.wellFormed = true := by
  by_cases plain : op = 0xCB
  · rw [plain, decodeBytes_CB]
    exact (decodeCB_spells n).1
  · rw [decodeBytes_plain plain, (decodePrimary_spells op).wellFormed]
    exact bne_iff_ne.2 plain

theorem encode_decodeBytes (op n m : Byte) : encode (decodeBytes op n m).1 = [op, n, m].take (decodeBytes op n m).2 := by
  by_cases plain : op = 0xCB
  · rw [plain, decodeBytes_CB]
    exact (decodeCB_spells n).2
  · have bytes := (decodePrimary_spells op).bytes (cat m n)
    rw [lo_cat, hi_cat] at bytes
    rw [decodeBytes_length, decodeBytes_plain plain, decodeBytes_plain plain]
    exact bytes

/-- Settles O3: the length is constant in every entry of the tables, and two after 0xCB. -/
theorem lengthFromFirstByte : Obligations.LengthFromFirstByte := by
  intro b0 b1 b2 c1 c2
  obtain ⟨positive, atMostThree⟩ := decodeBytes_length_bounds b0 b1 b2
  exact ⟨by rw [decodeBytes_length, decodeBytes_length b0 c1 c2], positive, atMostThree, by rw [decodeBytes_CB]⟩

/-! ### Lists of bytes -/

/-- What the decoder reads of a list that has a first byte; it takes 0x00 for a byte that is not there. -/
theorem decode_cons (op : Byte) (tail : List Byte) :
    decode (op :: tail) =
      if (decodeBytes op (tail.getD 0 0x00) (tail.getD 1 0x00)).2 ≤ tail.length + 1 then
        .ok ((decodeBytes op (tail.getD 0 0x00) (tail.getD 1 0x00)).1,
          (op :: tail).drop (decodeBytes op (tail.getD 0 0x00) (tail.getD 1 0x00)).2)
      else .error (.truncated op) := rfl

/-- The bytes that stand for missing ones are beyond the instruction. -/
theorem take_padded (op : Byte) (tail : List Byte) {k : Nat} (enough : k ≤ tail.length + 1) (short : k ≤ 3) :
    [op, tail.getD 0 0x00, tail.getD 1 0x00].take k = (op :: tail).take k := by
  match k, tail with
  | 0, _ | 1, _ | 2, _ :: _ | 3, _ :: _ :: _ => rfl

/-- Settles O2: the decoder drops from the list what the instruction spells. -/
theorem encodeOfDecode : Obligations.EncodeOfDecode := by
  intro bytes i rest read
  cases bytes with
  | nil => cases read
  | cons op tail =>
    rw [decode_cons] at read
    split at read
    case isTrue enough =>
      obtain ⟨rfl, rfl⟩ := Prod.mk.inj (Except.ok.inj read)
      refine ⟨decodeBytes_wellFormed _ _ _, ?_⟩
      rw [encode_decodeBytes, take_padded op tail enough (decodeBytes_length_bounds _ _ _).2, List.take_append_drop]
    case isFalse => cases read

/-- Settles O4: an error is one of the two of the decoder, and the length compared is that of the first byte. -/
theorem decodeRejectsOnlyShortInput : Obligations.DecodeRejectsOnlyShortInput := by
  intro bytes e read
  cases bytes with
  | nil => exact .inl ⟨rfl, (Except.error.inj read).symm⟩
  | cons op tail =>
    rw [decode_cons, decodeBytes_length] at read
    split at read
    case isTrue => cases read
    case isFalse short => exact .inr ⟨op, tail, rfl, (Except.error.inj read).symm, Nat.not_le.1 short⟩

/-! ### The illegal opcodes -/

/-- R112 (D37): the illegal opcodes. -/
def illegalOpcodes : List Byte := [0xD3, 0xDB, 0xDD, 0xE3, 0xE4, 0xEB, 0xEC, 0xED, 0xF4, 0xFC, 0xFD]

theorem mem_illegalOpcodes {i : Instr} {op : Byte} (h : i.illegalOpcode = some op) : op ∈ illegalOpcodes := by
  unfold Instr.illegalOpcode at h
  split at h <;> cases h <;> decide

theorem exists_illegal {op : Byte} (h : op ∈ illegalOpcodes) : ∃ i : Instr, i.illegalOpcode = some op := by
  simp only [illegalOpcodes, List.mem_cons, List.not_mem_nil, or_false] at h
  rcases h with rfl | rfl | rfl | rfl | rfl | rfl | rfl | rfl | rfl | rfl | rfl
  exacts [⟨.illegal_D3, rfl⟩, ⟨.illegal_DB, rfl⟩, ⟨.illegal_DD, rfl⟩, ⟨.illegal_E3, rfl⟩, ⟨.illegal_E4, rfl⟩, ⟨.illegal_EB, rfl⟩,
    ⟨.illegal_EC, rfl⟩, ⟨.illegal_ED, rfl⟩, ⟨.illegal_F4, rfl⟩, ⟨.illegal_FC, rfl⟩, ⟨.illegal_FD, rfl⟩]

/-- An illegal instruction is read from its own opcode only, since the decoder reads nothing but encodings. -/
theorem illegalOpcode_decodeBytes {op n m op' : Byte} (h : (decodeBytes op n m).1.illegalOpcode = some op') : op' = op := by
  have spelled := (encode_illegal h).symm.trans (encode_decodeBytes op n m)
  obtain ⟨k, more⟩ := Nat.exists_eq_add_of_le' (decodeBytes_length_bounds op n m).1
  rw [more, List.take_succ_cons] at spelled
  exact (List.cons.inj spelled).1

/-- Settles O5: the opcodes of the list are read as illegal, and an illegal instruction read is of the first byte, which is of the
list. -/
theorem illegalOpcodesAreEleven : Obligations.IllegalOpcodesAreEleven := by
  intro b0 b1 b2
  split
  case isTrue listed =>
    obtain ⟨i, illegal⟩ := exists_illegal listed
    rw [decodeBytes_illegal illegal, illegal]
  case isFalse unlisted =>
    exact Option.eq_none_iff_forall_ne_some.2 fun op illegal =>
      unlisted (illegalOpcode_decodeBytes illegal ▸ mem_illegalOpcodes illegal)

/-- Settles O6: the fields of each word lead to its row. -/
theorem decodeWordsByHand : Obligations.DecodeWordsByHand := ⟨rfl, rfl, rfl, rfl, rfl, rfl, rfl, rfl, rfl, rfl, rfl⟩

end Sys2Proof
end

section
/-!
SUPPORT. A step from the bytes at `PC` (spec/30_encoding.md R100, spec/60_exceptions.md R300, R303): the instruction the decoder
reads there is the one that is run.
-/

namespace Sys2Proof.Machine

/-- The list of the three bytes at `PC` decodes to the instruction fetched, and what is left over tells its length. -/
theorem State.fetched_of_decode {s : State} {i : Instr} {rest : List Byte}
    (read : decode [s.read8 s.pc, s.read8 (s.pc + 1), s.read8 (s.pc + 2)] = .ok (i, rest)) : s.fetched = (i, 3 - rest.length) := by
  have short : s.fetched.2 ≤ 3 := (decodeBytes_length_bounds _ _ _).2
  rw [decode_three _ _ _ [] short] at read
  obtain ⟨instr, left⟩ := Prod.mk.inj (Except.ok.inj read)
  refine Prod.ext instr ?_
  rw [← left, List.length_drop]
  exact (Nat.sub_sub_self short).symm

/-! ### The three outcomes of the instruction that a running machine executes -/

theorem State.systemStep_of_exec_next {s t : State} (running : s.runState = .running)
    (next : exec s.fetched.1 s.pastInstruction = .next t) : s.systemStep = t.advanceDevices.deliverIfPending := by
  rw [State.systemStep, State.cpuStep_running running, State.runInstruction, next]

theorem State.systemStep_of_exec_fault {s : State} {f : Fault} (running : s.runState = .running)
    (fault : exec s.fetched.1 s.pastInstruction = .fault f) : s.systemStep = raise s.pastInstruction f := by
  rw [State.systemStep, State.cpuStep_running running, State.runInstruction, fault]
  rfl

theorem State.systemStep_of_exec_refused {s : State} {r : Refusal} (running : s.runState = .running)
    (refused : exec s.fetched.1 s.pastInstruction = .refused r) : s.systemStep = .declined r := by
  rw [State.systemStep, State.cpuStep_running running, State.runInstruction, refused]

/-- Settles O7: `exec` is given the instruction and the state of the fetch, and the step goes on from each of its outcomes. -/
theorem stepRunsTheDecodedInstruction : Obligations.StepRunsTheDecodedInstruction := by
  intro s i rest running read
  have fetch := State.fetched_of_decode read
  have past : s.pastInstruction = { s with pc := s.pc + BitVec.ofNat 16 (3 - rest.length) } := by
    rw [State.pastInstruction, fetch, State.setPc]
  have instr : s.fetched.1 = i := by rw [fetch]
  rw [← past, ← instr]
  refine ⟨fun t next => ?_, fun f fault => ?_, fun r refused => ?_⟩
  · rw [step, State.systemStep_of_exec_next running next, State.advanceDevices]
  · have raised := State.systemStep_of_exec_fault running fault
    exact ⟨step_of_systemStep_raised raised, State.afterStep_of_systemStep_raised raised⟩
  · rw [step, State.systemStep_of_exec_refused running refused, Stage.outcome]

end Sys2Proof.Machine
end

section
/-!
SUPPORT. The 8-bit loads and stores (spec/40_load8.md R130 to R148): what each operation that the rows share does, with the cycle
count as a number, and then each row by its operation.
-/

namespace Sys2Proof.Machine

/-! ### Addresses and bytes -/

/-- R110: the I/O page as an offset. -/
theorem page0xFF_eq (n : Byte) : page0xFF n = 0xFF00 + n.setWidth 16 := by
  apply BitVec.eq_of_toNat_eq
  rw [page0xFF, toNat_cat]
  bv_omega

theorem encode_ld_A_ma16 (w : Word) :
    encode (.ld_A_ma16 w) = [0xFA, BitVec.ofNat 8 w.toNat, BitVec.ofNat 8 (w.toNat / 256)] := by
  rw [← lo_eq, ← hi_eq]
  rfl

theorem encode_ld_ma16_A (w : Word) :
    encode (.ld_ma16_A w) = [0xEA, BitVec.ofNat 8 w.toNat, BitVec.ofNat 8 (w.toNat / 256)] := by
  rw [← lo_eq, ← hi_eq]
  rfl

/-! ### The shared operations -/

theorem finish_eq {op : Byte} {prefixed taken : Bool} {n : Nat} (count : CYCLES op prefixed taken = n) (s : State) :
    finish op prefixed taken s = .next { s with cycles := n } := by
  rw [finish, count, State.setCycles]

theorem loadA_eq {op : Byte} {n : Nat} (count : CYCLES op false true = n) (addr : Word) (s : State) :
    loadA op addr s = .next { s.setReg .a (s.read8 addr) with cycles := n } :=
  finish_eq count _

/-- A store of one byte: the bus write, and with it that only `Mem` and `boot` may differ, and `Mem` only where the write reaches. -/
theorem storeAt_spec {op : Byte} {n : Nat} (count : CYCLES op false true = n) (addr : Word) (v : Byte) (s : State) :
    ∃ t, storeAt op addr v s = .next t ∧ t = { s.write8 addr v with cycles := n }
      ∧ t = { s with mem := t.mem, boot := t.boot, cycles := n } ∧ s.SameOutside t addr := by
  refine ⟨_, finish_eq count _, rfl, ?_, s.sameOutside_write8 addr v⟩
  conv_lhs => rw [s.write8_eq addr v]

/-- R145, R147: the store at the old `HL`, and then `HL` moved. -/
theorem storeStep_spec {op : Byte} {n : Nat} (count : CYCLES op false true = n) (delta : Word) (s : State) :
    ∃ t, storeStep op delta s = .next t
      ∧ t = { s.write8 s.hl s.a with
              h := BitVec.ofNat 8 ((s.hl + delta).toNat / 256), l := BitVec.ofNat 8 (s.hl + delta).toNat, cycles := n }
      ∧ t = { s with mem := t.mem, boot := t.boot, h := t.h, l := t.l, cycles := n } ∧ s.SameOutside t s.hl := by
  refine ⟨_, by rw [storeStep, finish_eq count, State.setPair_hl], rfl, ?_, s.sameOutside_write8 s.hl s.a⟩
  conv_lhs => rw [s.write8_eq s.hl s.a]

/-- R146, R148: the load from the old `HL`, and then `HL` moved. -/
theorem loadStep_eq {op : Byte} {n : Nat} (count : CYCLES op false true = n) (delta : Word) (s : State) :
    loadStep op delta s = .next { s with
      a := s.read8 s.hl, h := BitVec.ofNat 8 ((s.hl + delta).toNat / 256), l := BitVec.ofNat 8 (s.hl + delta).toNat, cycles := n } := by
  rw [loadStep, finish_eq count, State.setPair_hl, State.setReg]

/-! ### The rows -/

/-- Settles O26: both forms are one register write, and every opcode of a form has the form's cycle count. -/
theorem loadRegister : Obligations.LoadRegister := by
  intro dst src n s
  refine ⟨encode_ldRegReg dst src, ?_, encode_ldRegImm dst n, ?_⟩
  · rw [exec_ldRegReg]
    exact finish_eq (by cases dst <;> cases src <;> rfl) _
  · rw [exec_ldRegImm]
    exact finish_eq (by cases dst <;> rfl) _

/-- Settles O27: every row is a load of its register from the address of its rule. -/
theorem loadFromMemory : Obligations.LoadFromMemory := by
  rintro i dst addr bytes count s (⟨rfl, rfl, rfl, rfl⟩ | ⟨rfl, rfl, rfl, rfl, rfl⟩ | ⟨rfl, rfl, rfl, rfl, rfl⟩ | ⟨rfl, rfl, rfl, rfl⟩
    | ⟨n, rfl, rfl, rfl, rfl, rfl⟩ | ⟨rfl, rfl, rfl, rfl, rfl⟩)
  · refine ⟨encode_ldRegMem dst, ?_⟩
    rw [exec_ldRegMem]
    exact finish_eq (by cases dst <;> rfl) _
  · exact ⟨rfl, loadA_eq rfl s.bc s⟩
  · exact ⟨rfl, loadA_eq rfl s.de s⟩
  · exact ⟨encode_ld_A_ma16 addr, loadA_eq rfl addr s⟩
  · rw [← page0xFF_eq]
    exact ⟨rfl, loadA_eq rfl (page0xFF n) s⟩
  · rw [← page0xFF_eq]
    exact ⟨rfl, loadA_eq rfl (page0xFF s.c) s⟩

/-- Settles O28: every row is a store of one byte at the address of its rule. -/
theorem storeByte : Obligations.StoreByte := by
  rintro i addr v bytes count s (⟨src, rfl, rfl, rfl, rfl, rfl⟩ | ⟨rfl, rfl, rfl, rfl⟩ | ⟨rfl, rfl, rfl, rfl, rfl⟩
    | ⟨rfl, rfl, rfl, rfl, rfl⟩ | ⟨rfl, rfl, rfl, rfl⟩ | ⟨n, rfl, rfl, rfl, rfl, rfl⟩ | ⟨rfl, rfl, rfl, rfl, rfl⟩)
  · refine ⟨encode_ldMemReg src, ?_⟩
    rw [exec_ldMemReg]
    exact storeAt_spec (by cases src <;> rfl) s.hl (s.reg src) s
  · exact ⟨rfl, storeAt_spec rfl s.hl v s⟩
  · exact ⟨rfl, storeAt_spec rfl s.bc s.a s⟩
  · exact ⟨rfl, storeAt_spec rfl s.de s.a s⟩
  · exact ⟨encode_ld_ma16_A addr, storeAt_spec rfl addr s.a s⟩
  · rw [← page0xFF_eq]
    exact ⟨rfl, storeAt_spec rfl (page0xFF n) s.a s⟩
  · rw [← page0xFF_eq]
    exact ⟨rfl, storeAt_spec rfl (page0xFF s.c) s.a s⟩

/-- Settles O29: down and up are the one store and the one load that move `HL`, with -1 and 1 as the distance. -/
theorem loadStoreMovingHL : Obligations.LoadStoreMovingHL := by
  intro down s
  cases down with
  | false => exact ⟨rfl, rfl, storeStep_spec rfl 1 s, loadStep_eq rfl 1 s⟩
  | true =>
    simp only [if_true, BitVec.sub_eq_add_neg]
    exact ⟨rfl, rfl, storeStep_spec rfl (-1) s, loadStep_eq rfl (-1) s⟩

end Sys2Proof.Machine
end

section
/-!
SUPPORT. The 16-bit loads and the stack instructions (spec/41_load16_stack.md R160 to R167): the store of a word, the push and the
pop, each with the cycle count as a number, and then the rows.
-/

namespace Sys2Proof.Machine

/-! ### Words -/

theorem encode_ld_ma16_SP (w : Word) :
    encode (.ld_ma16_SP w) = [0x08, BitVec.ofNat 8 w.toNat, BitVec.ofNat 8 (w.toNat / 256)] := by
  rw [← lo_eq, ← hi_eq]
  rfl

/-- R75: the low byte is written first, the high byte after it at the next address modulo 2^16. -/
theorem State.write16_eq_bytes (s : State) (addr w : Word) :
    s.write16 addr w = (s.write8 addr (BitVec.ofNat 8 w.toNat)).write8 (addr + 1) (BitVec.ofNat 8 (w.toNat / 256)) := by
  rw [← lo_eq, ← hi_eq, State.write16]

/-- The store of a word: the two bus writes, and with them that only `Mem` and `boot` may differ, and `Mem` only where they reach. -/
theorem finish_write16_spec {op : Byte} {n : Nat} (count : CYCLES op false true = n) (addr w : Word) (s : State) :
    ∃ t, finish op false true (s.write16 addr w) = .next t ∧ t = { s.write16 addr w with cycles := n }
      ∧ t = { s with mem := t.mem, boot := t.boot, cycles := n } ∧ s.SameOutside16 t addr := by
  refine ⟨_, finish_eq count _, rfl, ?_, s.sameOutside_write16 addr w⟩
  conv_lhs => rw [s.write16_eq addr w]

/-! ### The stack -/

@[simp] theorem State.push16_pc (s : State) (w : Word) : (s.push16 w).pc = s.pc := by rw [State.push16_eq, State.write16_pc]

/-- R76: a push with its cycle count changes nothing but what `OnlyStack` lists. -/
theorem State.onlyStack_push16 (s : State) (w : Word) (n : Nat) : s.OnlyStack { s.push16 w with cycles := n } := by
  rw [State.OnlyStack, State.push16_eq, State.write16_eq]

/-- R164, R165: the word is written at `SP - 2`, where `SP` then stands. -/
theorem pushPair_spec {op : Byte} {n : Nat} (count : CYCLES op false true = n) (q : StackPair) (s : State) :
    ∃ t, pushPair op q s = .next t
      ∧ t = { ({ s with sp := s.sp - 2 } : State).write16 (s.sp - 2) (s.stackPair q) with cycles := n }
      ∧ t.sp = s.sp - 2 ∧ t.pc = s.pc ∧ s.OnlyStack t ∧ s.SameOutside16 t (s.sp - 2) :=
  ⟨_, finish_eq count _, by rw [State.push16_eq], s.push16_sp _, s.push16_pc _, s.onlyStack_push16 _ n, s.sameOutside_push16 _⟩

/-- `SP` is in none of the pairs of R108, so that it does not matter whether it is moved before the pair is written. -/
theorem State.setStackPair_setSp (s : State) (q : StackPair) (v w : Word) :
    (s.setSp v).setStackPair q w = (s.setStackPair q w).setSp v := by
  cases q <;> rfl

/-- R166, R167: the pair is written from the word at the old `SP`, which then moves by two. -/
theorem popPair_eq {op : Byte} {n : Nat} (count : CYCLES op false true = n) (q : StackPair) (s : State) :
    popPair op q s = .next { s.setStackPair q (s.read16 s.sp) with sp := s.sp + 2, cycles := n } := by
  rw [popPair, finish_eq count, State.dropTop, State.top16, State.setStackPair_setSp, State.setSp]

/-! ### The rows -/

/-- Settles O30: a pair or `SP` is written alone; the row that stores is the store of a word, byte by byte. -/
theorem loadWord : Obligations.LoadWord := by
  intro p w s
  refine ⟨?_, ?_, rfl, finish_eq rfl _, encode_ld_ma16_SP w, ?_⟩
  · rw [← lo_eq, ← hi_eq]
    exact encode_ldPairImm p w
  · rw [exec_ldPairImm]
    exact finish_eq (by cases p <;> rfl) _
  · rw [← State.write16_eq_bytes]
    exact finish_write16_spec rfl w s.sp s

/-- Settles O31: both forms are one push and one pop, and every opcode of a form has the form's cycle count. -/
theorem pushAndPop : Obligations.PushAndPop := by
  intro q s
  refine ⟨encode_push q, encode_pop q, ?_, ?_⟩
  · rw [exec_push]
    exact pushPair_spec (by cases q <;> rfl) q s
  · rw [exec_pop]
    exact popPair_eq (by cases q <;> rfl) q s

end Sys2Proof.Machine
end

section
/-!
SUPPORT. 8-bit arithmetic and logic (spec/42_alu8.md R180 to R204): the adder, the subtractor and the decimal correction over the
integers, the outcome of an accumulator row and of an `INC` or `DEC` row, and then the rows.
-/

namespace Sys2Proof.Machine

/-! ### The adder and the subtractor -/

/-- R180 (D12): the half-carry is the carry out of the sum of the low nibbles. -/
theorem add8_eq (a b : Byte) (cin : Bool) :
    add8 a b cin = ⟨BitVec.ofNat 8 (a.toNat + b.toNat + cin.toNat), decide (a.toNat % 16 + b.toNat % 16 + cin.toNat > 15),
      decide (a.toNat + b.toNat + cin.toNat > 255)⟩ := by
  simp only [add8, toNat_and_0x0F]

/-- R181 (D12): the borrow is the sign of the integer difference, the half-borrow that of the low nibbles. -/
theorem sub8_eq (a b : Byte) (cin : Bool) :
    sub8 a b cin = ⟨BitVec.ofInt 8 ((a.toNat : Int) - b.toNat - cin.toNat), decide (a.toNat % 16 < b.toNat % 16 + cin.toNat),
      decide ((a.toNat : Int) - b.toNat - cin.toNat < 0)⟩ := by
  have borrow : a.toNat < b.toNat + cin.toNat ↔ (a.toNat : Int) - b.toNat - cin.toNat < 0 := by omega
  simp only [sub8, toNat_and_0x0F, borrow]

/-- R204: fZ of a byte narrowed from a natural number. -/
theorem ofNat_beq_zero (n : Nat) : (BitVec.ofNat 8 n == 0) = decide (n % 256 = 0) := by
  rw [Bool.eq_iff_iff, beq_iff_eq, decide_eq_true_iff, ← BitVec.toNat_inj, BitVec.toNat_ofNat]
  rfl

/-- R204: fZ of a byte narrowed from an integer. -/
theorem ofInt_beq_zero (n : Int) : (BitVec.ofInt 8 n == 0) = decide (n % 256 = 0) := by
  rw [Bool.eq_iff_iff, beq_iff_eq, decide_eq_true_iff, ← BitVec.toNat_inj, BitVec.toNat_ofInt]
  change (n % 256).toNat = 0 ↔ n % 256 = 0
  omega

/-- R181, R204: a difference narrowed to a byte, as a natural number. -/
theorem toNat_ofInt_sub {a b : Nat} (small : b ≤ 256) : (BitVec.ofInt 8 ((a : Int) - b)).toNat = (a + 256 - b) % 256 := by
  rw [BitVec.toNat_ofInt]
  omega

/-! ### The accumulator rows -/

/-- The two rows of the accumulator operation `o`: `v` is the operand, `bytes` the encoding and `count` the cycles. -/
def AluRow (o : Alu) (i : Instr) (v : Byte) (bytes : List Byte) (count : Nat) (s : State) : Prop :=
  (∃ x, i = Form.aluOperand o x ∧ v = s.operand x ∧ bytes = [0x80 + 8 * o.field + x.field] ∧ count = x.cost 4 8)
    ∨ (i = Form.aluImm o v ∧ bytes = [0xC6 + 8 * o.field, v] ∧ count = 8)

theorem cycles_aluOperand (o : Alu) (x : Operand8) : CYCLES (0x80 + 8 * o.field + x.field) false true = x.cost 4 8 := by
  rcases x with r | _
  · cases o <;> cases r <;> rfl
  · cases o <;> rfl

theorem cycles_aluImm (o : Alu) : CYCLES (0xC6 + 8 * o.field) false true = 8 := by cases o <;> rfl

/-- R182 to R197: an accumulator operation writes `A`, unless it is `CP`, and the four flags. -/
theorem accumulate_eq {op : Byte} {n : Nat} (count : CYCLES op false true = n) (o : Alu) (v : Byte) (s : State) {q : AluOut}
    (out : aluOut o s.a v s.fC = q) :
    accumulate op o v s = .next { s with
      a := if writesA o then q.r else s.a, fZ := q.r == 0, fN := q.n, fH := q.h, fC := q.c, cycles := n } := by
  rw [accumulate, out, finish_eq count]
  cases writesA o <;> rfl

theorem AluRow.exec_eq {o : Alu} {i : Instr} {v : Byte} {bytes : List Byte} {count : Nat} {s : State}
    (row : AluRow o i v bytes count s) {q : AluOut} (out : aluOut o s.a v s.fC = q) :
    encode i = bytes ∧ exec i s = .next { s with
      a := if writesA o then q.r else s.a, fZ := q.r == 0, fN := q.n, fH := q.h, fC := q.c, cycles := count } := by
  rcases row with ⟨x, rfl, rfl, rfl, rfl⟩ | ⟨rfl, rfl, rfl⟩
  · exact ⟨encode_aluOperand o x, (exec_aluOperand o x s).trans (accumulate_eq (cycles_aluOperand o x) o _ s out)⟩
  · exact ⟨encode_aluImm o v, (exec_aluImm o v s).trans (accumulate_eq (cycles_aluImm o) o v s out)⟩

/-- Settles O32: both operations are the adder, `ADD` with no carry in. -/
theorem addToAccumulator : Obligations.AddToAccumulator := by
  intro withCarry i v bytes count s o row
  have out : aluOut o s.a v s.fC =
      ⟨(add8 s.a v (withCarry && s.fC)).r, false, (add8 s.a v (withCarry && s.fC)).h, (add8 s.a v (withCarry && s.fC)).c⟩ := by
    cases withCarry <;> rfl
  have writes : writesA o = true := by cases withCarry <;> rfl
  obtain ⟨spelled, run⟩ := AluRow.exec_eq row out
  rw [add8_eq, if_pos writes, ofNat_beq_zero] at run
  exact ⟨spelled, run⟩

/-- Settles O33: all three are the subtractor, with a carry in for `SBC` only, and `CP` alone does not write `A`. -/
theorem subtractFromAccumulator : Obligations.SubtractFromAccumulator := by
  intro o i v bytes count s subtraction row
  have out : aluOut o s.a v s.fC = ⟨(sub8 s.a v (decide (o = .sbc) && s.fC)).r, true,
      (sub8 s.a v (decide (o = .sbc) && s.fC)).h, (sub8 s.a v (decide (o = .sbc) && s.fC)).c⟩ := by
    rcases subtraction with rfl | rfl | rfl <;> rfl
  have writes (r : Byte) : (if writesA o then r else s.a) = if o = .cp then s.a else r := by
    rcases subtraction with rfl | rfl | rfl <;> rfl
  obtain ⟨spelled, run⟩ := AluRow.exec_eq row out
  rw [sub8_eq, writes, ofInt_beq_zero] at run
  exact ⟨spelled, run⟩

/-- Settles O34: each is the bitwise operation of its name, and they differ in fH alone. -/
theorem logicOnAccumulator : Obligations.LogicOnAccumulator := by
  intro o i v bytes count s logic row
  rcases logic with rfl | rfl | rfl
  · obtain ⟨spelled, run⟩ := AluRow.exec_eq row rfl
    exact ⟨spelled, s.a &&& v, run, fun k _ => BitVec.getLsbD_and⟩
  · obtain ⟨spelled, run⟩ := AluRow.exec_eq row rfl
    exact ⟨spelled, s.a ^^^ v, run, fun k _ => BitVec.getLsbD_xor⟩
  · obtain ⟨spelled, run⟩ := AluRow.exec_eq row rfl
    exact ⟨spelled, s.a ||| v, run, fun k _ => BitVec.getLsbD_or⟩

/-! ### Increment and decrement -/

@[simp] theorem State.setOperand_fC (s : State) (x : Operand8) (v : Byte) : (s.setOperand x v).fC = s.fC := by
  cases x with
  | reg r => exact s.setReg_fC r v
  | memHL => exact s.write8_fC s.hl v

theorem cycles_inc8 (x : Operand8) : CYCLES (0x04 + 8 * x.field) false true = x.cost 4 12 := by
  rcases x with r | _
  · cases r <;> rfl
  · rfl

theorem cycles_dec8 (x : Operand8) : CYCLES (0x05 + 8 * x.field) false true = x.cost 4 12 := by
  rcases x with r | _
  · cases r <;> rfl
  · rfl

/-- R198, R199: an operand, fZ, fN and fH are written, and fC is written back. -/
theorem finish_setOperand_spec {op : Byte} {count : Nat} (cycles : CYCLES op false true = count) (x : Operand8) (r : Byte)
    (z n h : Bool) (s : State) :
    ∃ t, finish op false true ((s.setOperand x r).setFlags z n h s.fC) = .next t
      ∧ t = { s.setOperand x r with fZ := z, fN := n, fH := h, cycles := count } ∧ s.SameButOperand t x := by
  refine ⟨{ s.setOperand x r with fZ := z, fN := n, fH := h, cycles := count }, ?_, rfl, ?_⟩
  · rw [finish_eq cycles, State.setFlags, ← s.setOperand_fC x r]
  · have frame := s.sameButOperand x r
    cases x with
    | reg _ => exact frame
    | memHL => exact frame

/-- R198: the low nibble that carries is 15, the byte that carries is 0xFF. -/
theorem add8_one (v : Byte) : add8 v 1 false = ⟨BitVec.ofNat 8 (v.toNat + 1), decide (v.toNat % 16 = 15), decide (v = 0xFF)⟩ := by
  have half : v.toNat % 16 + 1 > 15 ↔ v.toNat % 16 = 15 := by omega
  have carry : v.toNat + 1 > 255 ↔ v = 0xFF := by bv_omega
  rw [← decide_eq_decide.2 half, ← decide_eq_decide.2 carry]
  exact add8_eq v 1 false

/-- R199: modulo 256 the difference is the sum with 255; the low nibble that borrows is 0, the byte that borrows 0x00. -/
theorem sub8_one (v : Byte) : sub8 v 1 false = ⟨BitVec.ofNat 8 (v.toNat + 255), decide (v.toNat % 16 = 0), decide (v = 0x00)⟩ := by
  have difference : BitVec.ofInt 8 ((v.toNat : Int) - 1 - 0) = BitVec.ofNat 8 (v.toNat + 255) := by
    apply BitVec.eq_of_toNat_eq
    rw [BitVec.toNat_ofInt, BitVec.toNat_ofNat]
    omega
  have half : v.toNat % 16 < 1 ↔ v.toNat % 16 = 0 := by omega
  have borrow : (v.toNat : Int) - 1 - 0 < 0 ↔ v = 0x00 := by bv_omega
  rw [← difference, ← decide_eq_decide.2 half, ← decide_eq_decide.2 borrow]
  exact sub8_eq v 1 false

/-- R198: fZ says that the operand was 0xFF. -/
theorem increment_eq (op : Byte) (x : Operand8) (s : State) :
    increment op x s = finish op false true ((s.setOperand x (BitVec.ofNat 8 ((s.operand x).toNat + 1))).setFlags
      (decide (s.operand x = 0xFF)) false (decide ((s.operand x).toNat % 16 = 15)) s.fC) := by
  have zero : ((s.operand x).toNat + 1) % 256 = 0 ↔ s.operand x = 0xFF := by bv_omega
  rw [← decide_eq_decide.2 zero, ← ofNat_beq_zero, increment, add8_one]

/-- R199: fZ says that the operand was 0x01. -/
theorem decrement_eq (op : Byte) (x : Operand8) (s : State) :
    decrement op x s = finish op false true ((s.setOperand x (BitVec.ofNat 8 ((s.operand x).toNat + 255))).setFlags
      (decide (s.operand x = 0x01)) true (decide ((s.operand x).toNat % 16 = 0)) s.fC) := by
  have zero : ((s.operand x).toNat + 255) % 256 = 0 ↔ s.operand x = 0x01 := by bv_omega
  rw [← decide_eq_decide.2 zero, ← ofNat_beq_zero, decrement, sub8_one]

/-- Settles O35: `INC` and `DEC` are the adder and the subtractor with the operand 1, and one write of the operand and the flags. -/
theorem incrementAndDecrementByte : Obligations.IncrementAndDecrementByte := by
  intro x s v
  refine ⟨encode_inc8 x, encode_dec8 x, ?_, ?_⟩
  · rw [exec_inc8, increment_eq]
    exact finish_setOperand_spec (cycles_inc8 x) x _ _ _ _ s
  · rw [exec_dec8, decrement_eq]
    exact finish_setOperand_spec (cycles_dec8 x) x _ _ _ _ s

/-! ### The decimal correction -/

/-- R200: the correction of the low digit. -/
def daaSix (a : Nat) (n h : Bool) : Nat := if h = true ∨ (n = false ∧ a % 16 > 9) then 0x06 else 0

/-- R200: the correction of the high digit. -/
def daaSixty (a : Nat) (n c : Bool) : Nat := if c = true ∨ (n = false ∧ a > 0x99) then 0x60 else 0

/-- R200: the corrected accumulator. -/
def daaValue (a : Nat) (n h c : Bool) : Nat :=
  (if n then a + 256 - (daaSix a n h + daaSixty a n c) else a + (daaSix a n h + daaSixty a n c)) % 256

/-- The two corrections have no bit in common, so that joining them adds them. -/
theorem toNat_correction (low high : Bool) :
    ((if low then 0x06#8 else 0x00#8) ||| (if high then 0x60#8 else 0x00#8)).toNat =
      (if low then 0x06 else 0) + (if high then 0x60 else 0) := by
  cases low <;> cases high <;> rfl

theorem daaOut_eq (a : Byte) (n h c : Bool) :
    daaOut a n h c = (BitVec.ofNat 8 (daaValue a.toNat n h c), decide (daaSixty a.toNat n c ≠ 0)) := by
  cases n with
  | false =>
    have low : (if h || decide ((a &&& 0x0F).toNat > 0x09) then 0x06 else 0) = daaSix a.toNat false h := by
      rw [toNat_and_0x0F]
      simp [daaSix]
    have high : (if c || decide (a.toNat > 0x99) then 0x60 else 0) = daaSixty a.toNat false c := by simp [daaSixty]
    have carry : (c || decide (a.toNat > 0x99)) = decide (daaSixty a.toNat false c ≠ 0) := by simp [daaSixty]
    refine Prod.ext (BitVec.eq_of_toNat_eq ?_) carry
    rw [daaOut, if_neg Bool.false_ne_true, BitVec.toNat_add, toNat_correction, low, high, BitVec.toNat_ofNat, daaValue,
      if_neg Bool.false_ne_true, Nat.mod_mod]
  | true =>
    have low : (if h then 0x06 else 0) = daaSix a.toNat true h := by simp [daaSix]
    have high : (if c then 0x60 else 0) = daaSixty a.toNat true c := by simp [daaSixty]
    have carry : c = decide (daaSixty a.toNat true c ≠ 0) := by simp [daaSixty]
    refine Prod.ext (BitVec.eq_of_toNat_eq ?_) carry
    have small : daaSix a.toNat true h + daaSixty a.toNat true c ≤ 256 := by
      rw [← low, ← high]
      split <;> split <;> decide
    rw [daaOut, if_pos rfl, BitVec.toNat_sub, toNat_correction, low, high, BitVec.toNat_ofNat, daaValue, if_pos rfl]
    omega

theorem exec_daa (s : State) :
    exec .daa s = .next { s with
      a := BitVec.ofNat 8 (daaValue s.a.toNat s.fN s.fH s.fC), fZ := decide (daaValue s.a.toNat s.fN s.fH s.fC = 0), fH := false,
      fC := decide (daaSixty s.a.toNat s.fN s.fC ≠ 0), cycles := 4 } := by
  have zero : daaValue s.a.toNat s.fN s.fH s.fC % 256 = daaValue s.a.toNat s.fN s.fH s.fC := Nat.mod_mod _ _
  have run : exec .daa s = execDaa s := rfl
  rw [run, execDaa, daaOut_eq, finish_eq rfl, ofNat_beq_zero, zero]
  rfl

/-- Settles O36: the statement's table is the correction, digit by digit. -/
theorem decimalAdjust : Obligations.DecimalAdjust := fun s => ⟨rfl, exec_daa s⟩

/-! ### Decimal arithmetic -/

/-- A number below 100 in packed BCD: each decimal digit is a nibble. -/
def bcd (x : Nat) : Nat := 16 * (x / 10) + x % 10

theorem bcd_le {x : Nat} (hx : x < 100) : bcd x ≤ 0x99 := by
  simp only [bcd]
  omega

theorem bcd_mod_16 (x : Nat) : bcd x % 16 = x % 10 := by
  simp only [bcd]
  omega

theorem bcd_mod_100 (n : Nat) : bcd (n % 100) = 16 * (n % 100 / 10) + n % 10 := by
  rw [bcd, Nat.mod_mod_of_dvd n (by decide)]

theorem toNat_bcd {x : Nat} (hx : x < 100) : (BitVec.ofNat 8 (bcd x)).toNat = bcd x := by
  have := bcd_le hx
  exact Nat.mod_eq_of_lt (by omega)

/-- A carry out of a decimal digit is worth ten of that digit where a carry out of a nibble is worth sixteen: six more. -/
theorem bcd_add_bcd {x y z k m : Nat} (ones : x % 10 + y % 10 = z % 10 + 10 * k) (total : x + y = z + 100 * m) :
    bcd x + bcd y + (0x06 * k + 0x60 * m) = bcd z + 0x100 * m := by
  simp only [bcd]
  omega

/-- Two columns of digits: the carries of an addition modulo 100. -/
theorem decimal_columns {x y z : Nat} (sum : (x + y) % 100 = z) :
    x % 10 + y % 10 = z % 10 + 10 * ((x % 10 + y % 10) / 10) ∧ x + y = z + 100 * ((x + y) / 100) := by
  omega

section
variable {x y z k m : Nat} (ones : x % 10 + y % 10 = z % 10 + 10 * k) (total : x + y = z + 100 * m)
  (hx : x < 100) (hy : y < 100) (hz : z < 100)
include ones

/-- After an addition the correction of the low digit is by the decimal carry `k`. -/
theorem daaSix_sum : daaSix ((bcd x + bcd y) % 256) false (decide (bcd x % 16 + bcd y % 16 > 15)) = 0x06 * k := by
  have nibble : (bcd x + bcd y) % 256 % 16 = (x % 10 + y % 10) % 16 := by
    rw [Nat.mod_mod_of_dvd _ (by decide), Nat.add_mod, bcd_mod_16, bcd_mod_16]
  simp only [daaSix, nibble, decide_eq_true_eq, true_and, bcd_mod_16]
  split <;> omega

/-- After the subtraction `z - x`, which gives `y` modulo 100, it is by the decimal borrow `k`. -/
theorem daaSix_difference (a : Nat) : daaSix a true (decide (bcd z % 16 < bcd x % 16)) = 0x06 * k := by
  simp only [daaSix, decide_eq_true_eq, bcd_mod_16, Bool.true_eq_false, false_and, or_false]
  split <;> omega

include total hx hy hz

theorem daaSixty_sum : daaSixty ((bcd x + bcd y) % 256) false (decide (bcd x + bcd y > 255)) = 0x60 * m := by
  have columns := bcd_add_bcd ones total
  have bound := bcd_le hz
  have carries : k ≤ 1 ∧ m ≤ 1 := by omega
  clear ones total
  simp only [daaSixty, decide_eq_true_eq, true_and]
  split <;> omega

theorem daaSixty_difference (a : Nat) : daaSixty a true (decide (bcd z < bcd x)) = 0x60 * m := by
  have columns := bcd_add_bcd ones total
  have bound := bcd_le hy
  have carries : k ≤ 1 ∧ m ≤ 1 := by omega
  clear ones total
  simp only [daaSixty, decide_eq_true_eq, Bool.true_eq_false, false_and, or_false]
  split <;> omega

theorem daaValue_sum :
    daaValue ((bcd x + bcd y) % 256) false (decide (bcd x % 16 + bcd y % 16 > 15)) (decide (bcd x + bcd y > 255)) = bcd z := by
  have columns := bcd_add_bcd ones total
  have bound := bcd_le hz
  rw [daaValue, daaSix_sum ones, daaSixty_sum ones total hx hy hz, if_neg Bool.false_ne_true]
  clear ones total
  omega

theorem daaValue_difference :
    daaValue ((bcd z + 256 - bcd x) % 256) true (decide (bcd z % 16 < bcd x % 16)) (decide (bcd z < bcd x)) = bcd y := by
  have columns := bcd_add_bcd ones total
  have bounds := And.intro (bcd_le hx) (bcd_le hy)
  have carries : k ≤ 1 ∧ m ≤ 1 := by omega
  rw [daaValue, daaSix_difference ones, daaSixty_difference ones total hx hy hz, if_pos rfl]
  clear ones total
  omega

end

/-- R183: what `ADD` of two packed-BCD bytes leaves for `DAA`. -/
theorem exec_add_bcd {s t : State} {x y : Nat} (hx : x < 100) (hy : y < 100) (acc : s.a = BitVec.ofNat 8 (bcd x))
    (next : exec (.add_A_d8 (BitVec.ofNat 8 (bcd y))) s = .next t) :
    t.a.toNat = (bcd x + bcd y) % 256 ∧ t.fN = false ∧ t.fH = decide (bcd x % 16 + bcd y % 16 > 15)
      ∧ t.fC = decide (bcd x + bcd y > 255) := by
  obtain ⟨_, run⟩ := addToAccumulator false _ _ _ _ s (.inr ⟨rfl, rfl, rfl⟩)
  obtain rfl := Host.Outcome.next.inj (run.symm.trans next)
  simp only [acc, toNat_bcd hx, toNat_bcd hy, BitVec.toNat_ofNat, Bool.false_and, Bool.toNat_false, Nat.add_zero, and_self]

/-- R187: what `SUB` of two packed-BCD bytes leaves for `DAA`. -/
theorem exec_sub_bcd {s t : State} {x y : Nat} (hx : x < 100) (hy : y < 100) (acc : s.a = BitVec.ofNat 8 (bcd x))
    (next : exec (.sub_d8 (BitVec.ofNat 8 (bcd y))) s = .next t) :
    t.a.toNat = (bcd x + 256 - bcd y) % 256 ∧ t.fN = true ∧ t.fH = decide (bcd x % 16 < bcd y % 16)
      ∧ t.fC = decide (bcd x < bcd y) := by
  obtain ⟨_, run⟩ := subtractFromAccumulator .sub _ _ _ _ s (.inl rfl) (.inr ⟨rfl, rfl, rfl⟩)
  obtain rfl := Host.Outcome.next.inj (run.symm.trans next)
  have small : bcd y ≤ 256 := Nat.le_trans (bcd_le hy) (by decide)
  have borrow : (bcd x : Int) - bcd y < 0 ↔ bcd x < bcd y := by omega
  simp only [acc, toNat_bcd hx, toNat_bcd hy, reduceCtorEq, decide_false, Bool.false_and, Bool.toNat_false, Nat.add_zero, Nat.cast_zero,
    Int.sub_zero, if_false, toNat_ofInt_sub small, borrow, and_self]

/-- `DAA` where the correction of the high digit is by the decimal carry or borrow `m`. -/
theorem exec_daa_bcd {t : State} {a z m : Nat} {n h c : Bool} (state : t.a.toNat = a ∧ t.fN = n ∧ t.fH = h ∧ t.fC = c) (hz : z < 100)
    (value : daaValue a n h c = bcd z) (sixty : daaSixty a n c = 0x60 * m) :
    ∃ u, exec .daa t = .next u ∧ u.a.toNat = bcd z ∧ u.fC = decide (m ≠ 0) := by
  obtain ⟨rfl, rfl, rfl, rfl⟩ := state
  refine ⟨_, exec_daa t, ?_, ?_⟩
  · rw [value]
    exact toNat_bcd hz
  · simp [sixty]

/-- Settles O37: `ADD` and `SUB` leave the flags that tell `DAA` the decimal carries, and a difference modulo 100 is the number whose
addition to `y` gives `x`. -/
theorem decimalArithmetic : Obligations.DecimalArithmetic := by
  intro s t x y hx hy acc
  refine ⟨fun next => ?_, fun next => ?_⟩
  · obtain ⟨ones, total⟩ := decimal_columns (x := x) (y := y) rfl
    have hz : (x + y) % 100 < 100 := Nat.mod_lt _ (by decide)
    obtain ⟨u, run, value, carry⟩ := exec_daa_bcd (exec_add_bcd hx hy acc next) hz (daaValue_sum ones total hx hy hz)
      (daaSixty_sum ones total hx hy hz)
    exact ⟨u, run, value.trans (bcd_mod_100 _), carry.trans (decide_eq_decide.2 (by omega))⟩
  · have undone : (y + (x + 100 - y) % 100) % 100 = x := by omega
    obtain ⟨ones, total⟩ := decimal_columns undone
    have hz : (x + 100 - y) % 100 < 100 := Nat.mod_lt _ (by decide)
    obtain ⟨u, run, value, borrow⟩ := exec_daa_bcd (exec_sub_bcd hx hy acc next) hz (daaValue_difference ones total hy hz hx)
      (daaSixty_difference ones total hy hz hx _)
    exact ⟨u, run, value.trans (bcd_mod_100 _), borrow.trans (decide_eq_decide.2 (by omega))⟩

/-! ### Complement and carry -/

/-- Settles O38: each row is one write of the flags, after the complement for `CPL`. -/
theorem complementAndCarryFlag : Obligations.ComplementAndCarryFlag := by
  intro s
  have complement : ~~~s.a = BitVec.ofNat 8 (255 - s.a.toNat) := by bv_omega
  refine ⟨rfl, rfl, rfl, ?_, finish_eq rfl _, finish_eq rfl _⟩
  rw [← complement]
  exact finish_eq rfl _

end Sys2Proof.Machine
end

section
/-!
SUPPORT. 16-bit arithmetic (spec/43_alu16.md R210 to R214): the adder over the integers, what the three shared operations do, and
then the rows.
-/

namespace Sys2Proof.Machine

/-- R210 (D13): the half-carry is the carry out of the sum of the low twelve bits. -/
theorem add16_eq (a b : Word) :
    add16 a b = ⟨BitVec.ofNat 16 (a.toNat + b.toNat), decide (a.toNat % 4096 + b.toNat % 4096 > 4095),
      decide (a.toNat + b.toNat > 65535)⟩ := by
  simp only [add16, toNat_and_0x0FFF]

/-- R210: the sum goes to `HL`, fZ and fN are cleared, and fH and fC are the two carries. -/
theorem addToHL_eq {op : Byte} {n : Nat} (count : CYCLES op false true = n) (p : Pair) (s : State) :
    addToHL op p s = .next { s.setPair .hl (BitVec.ofNat 16 (s.hl.toNat + (s.pair p).toNat)) with
      fZ := false, fN := false, fH := decide (s.hl.toNat % 4096 + (s.pair p).toNat % 4096 > 4095),
      fC := decide (s.hl.toNat + (s.pair p).toNat > 65535), cycles := n } := by
  rw [addToHL, finish_eq count, add16_eq, State.setFlags]

/-- R213, R214 (D13): the carries are those of the unsigned sum of `SP` and the sign-extended operand, whose value is `v`. -/
theorem addToSP_eq {op e : Byte} {n v : Nat} (count : CYCLES op false true = n) (extended : (sext16 e).toNat = v) (dst : Pair)
    (s : State) :
    addToSP op dst e s = .next { s.setPair dst (BitVec.ofNat 16 (s.sp.toNat + v)) with
      fZ := false, fN := false, fH := decide (s.sp.toNat % 4096 + v % 4096 > 4095), fC := decide (s.sp.toNat + v > 65535),
      cycles := n } := by
  rw [addToSP, finish_eq count, add16_eq, extended, State.setFlags]

/-- R211, R212: the pair alone is written, modulo 2^16. -/
theorem stepPair_eq {op : Byte} {n : Nat} (count : CYCLES op false true = n) (p : Pair) (delta : Word) (s : State) :
    stepPair op p delta s = .next { s.setPair p (BitVec.ofNat 16 ((s.pair p).toNat + delta.toNat)) with cycles := n } := by
  have sum : s.pair p + delta = BitVec.ofNat 16 ((s.pair p).toNat + delta.toNat) := rfl
  rw [stepPair, finish_eq count, sum]

/-- Settles O39: `ADD HL,rr` and the two rows on `SP` are the adder; `INC` and `DEC` add 1 and 65535, which is -1 modulo 2^16; and
every opcode of a form has the form's cycle count. -/
theorem wordArithmetic : Obligations.WordArithmetic := by
  intro p e s b v
  have extended : (sext16 e).toNat = v := toNat_sext16 e
  refine ⟨encode_addHL p, encode_inc16 p, encode_dec16 p, rfl, rfl, ?_, ?_, ?_, ?_, ?_⟩
  · rw [exec_addHL]
    exact addToHL_eq (by cases p <;> rfl) p s
  · rw [exec_inc16]
    exact stepPair_eq (by cases p <;> rfl) p 1 s
  · rw [exec_dec16]
    exact stepPair_eq (by cases p <;> rfl) p (-1) s
  · exact addToSP_eq rfl extended .sp s
  · exact addToSP_eq rfl extended .hl s

end Sys2Proof.Machine
end

section
/-!
SUPPORT. Rotates, shifts and the bit instructions (spec/44_rotate_shift_bit.md R220 to R235): what they give over the integers and
bit by bit, the outcome of each shared operation, then the rows, and the prefix in front of them (R224).
-/

namespace Sys2Proof.Machine

/-! ### One bit of a byte -/

theorem getLsbD_eq_decide (v : Byte) (k : Nat) : v.getLsbD k = decide (v.toNat / 2 ^ k % 2 = 1) :=
  Nat.testBit_eq_decide_div_mod_eq

theorem getLsbD_zero_eq (v : Byte) : v.getLsbD 0 = decide (v.toNat % 2 = 1) := by
  rw [getLsbD_eq_decide, Nat.pow_zero, Nat.div_one]

theorem toNat_getLsbD_zero (v : Byte) : (v.getLsbD 0).toNat = v.toNat % 2 :=
  (Nat.toNat_testBit _ _).trans (by rw [Nat.pow_zero, Nat.div_one])

/-- R8: nothing stands above bit 7. -/
theorem toNat_div_128_mod_2 (v : Byte) : v.toNat / 2 ^ 7 % 2 = v.toNat / 128 := by
  have := v.isLt
  omega

theorem getLsbD_seven_eq (v : Byte) : v.getLsbD 7 = decide (128 ≤ v.toNat) := by
  have top : v.toNat / 128 = 1 ↔ 128 ≤ v.toNat := by
    have := v.isLt
    omega
  rw [getLsbD_eq_decide, toNat_div_128_mod_2, decide_eq_decide.2 top]

theorem toNat_getLsbD_seven (v : Byte) : (v.getLsbD 7).toNat = v.toNat / 128 := (Nat.toNat_testBit _ _).trans (toNat_div_128_mod_2 v)

/-! ### Shifts, and the bits that move in -/

/-- Where `a` has no bit below bit `k` and `b` none from there on, joining them adds them. -/
theorem or_eq_ofNat_add {a b : Byte} {k m n : Nat} (high : a.toNat = 2 ^ k * m) (low : b.toNat = n) (small : n < 2 ^ k) :
    a ||| b = BitVec.ofNat 8 (2 ^ k * m + n) := by
  rw [Nat.two_pow_add_eq_or_of_lt small, ← high, ← low, ← BitVec.toNat_or, BitVec.ofNat_toNat, BitVec.setWidth_eq]

theorem shiftLeft_one_eq (v : Byte) : v <<< 1 = BitVec.ofNat 8 (2 * v.toNat % 256) := by bv_omega

theorem shiftRight_one_eq (v : Byte) : v >>> 1 = BitVec.ofNat 8 (v.toNat / 2) := by bv_omega

/-- R220, R222: the bit that moves in at the bottom. -/
theorem shiftLeft_or_bit (v : Byte) (c : Bool) :
    (v <<< 1) ||| (if c then 1 else 0) = BitVec.ofNat 8 ((2 * v.toNat + c.toNat) % 256) := by
  have high : (v <<< 1).toNat = 2 ^ 1 * (v.toNat % 128) := by bv_omega
  have low : (if c then 1 else 0 : Byte).toNat = c.toNat := by cases c <;> rfl
  have narrowed : 2 ^ 1 * (v.toNat % 128) + c.toNat = (2 * v.toNat + c.toNat) % 256 := by
    have := c.toNat_lt
    omega
  rw [or_eq_ofNat_add high low c.toNat_lt, narrowed]

/-- R221, R223, R230: the bit `c` that moves in at the top, which stands in `t`. -/
theorem shiftRight_or_top (v : Byte) {t : Byte} {c : Nat} (top : t.toNat = 2 ^ 7 * c) :
    (v >>> 1) ||| t = BitVec.ofNat 8 (v.toNat / 2 + 128 * c) := by
  have low : (v >>> 1).toNat = v.toNat / 2 := by bv_omega
  have small : v.toNat / 2 < 2 ^ 7 := by
    have := v.isLt
    omega
  rw [Nat.add_comm, BitVec.or_comm]
  exact or_eq_ofNat_add top low small

theorem toNat_bit_shiftLeft_seven (c : Bool) : ((if c then 1 else 0 : Byte) <<< 7).toNat = 2 ^ 7 * c.toNat := by cases c <;> rfl

/-- R230: the bit that is kept at the top. -/
theorem toNat_and_0x80 (v : Byte) : (v &&& 0x80).toNat = 2 ^ 7 * (v.toNat / 128) := by
  have mask : (0x80 : Byte).toNat = 2 ^ 7 := rfl
  rw [BitVec.toNat_and, mask, Nat.and_two_pow, Nat.toNat_testBit, toNat_div_128_mod_2, Nat.mul_comm]

/-- R231: the mask of the high nibble is that of the low nibble shifted. -/
theorem swapped_nibbles_eq (v : Byte) : ((v <<< 4) &&& 0xF0) ||| (v >>> 4) = BitVec.ofNat 8 (16 * (v.toNat % 16) + v.toNat / 16) := by
  have high : ((v <<< 4) &&& 0xF0).toNat = 2 ^ 4 * (v.toNat % 16) := by
    have mask : (0xF0 : Byte) = (0x0F : Byte) <<< 4 := rfl
    have nibble := toNat_and_0x0F v
    rw [mask, ← BitVec.shiftLeft_and_distrib]
    generalize v &&& 0x0F = low at nibble
    bv_omega
  have low : (v >>> 4).toNat = v.toNat / 16 := by bv_omega
  have small : v.toNat / 16 < 2 ^ 4 := by
    have := v.isLt
    omega
  exact or_eq_ofNat_add high low small

/-! ### The eight operations -/

/-- R220 to R232, over the integers. -/
theorem rotOut_eq (o : Rot) (v : Byte) (cin : Bool) :
    rotOut o v cin = (BitVec.ofNat 8 (o.value v.toNat cin).1, (o.value v.toNat cin).2) := by
  cases o with
  | rlc => rw [rotOut, Rot.value, shiftLeft_or_bit, toNat_getLsbD_seven, getLsbD_seven_eq]
  | rrc => rw [rotOut, Rot.value, shiftRight_or_top v (toNat_bit_shiftLeft_seven _), toNat_getLsbD_zero, getLsbD_zero_eq]
  | rl => rw [rotOut, Rot.value, shiftLeft_or_bit, getLsbD_seven_eq]
  | rr => rw [rotOut, Rot.value, shiftRight_or_top v (toNat_bit_shiftLeft_seven _), getLsbD_zero_eq]
  | sla => rw [rotOut, Rot.value, shiftLeft_one_eq, getLsbD_seven_eq]
  | sra => rw [rotOut, Rot.value, shiftRight_or_top v (toNat_and_0x80 v), getLsbD_zero_eq]
  | swap => rw [rotOut, Rot.value, swapped_nibbles_eq]
  | srl => rw [rotOut, Rot.value, shiftRight_one_eq, getLsbD_zero_eq]

theorem Rot.value_lt (o : Rot) {v : Nat} (byte : v < 256) (cin : Bool) : (o.value v cin).1 < 256 := by
  have carry : cin.toNat < 2 := cin.toNat_lt
  cases o <;> simp only [Rot.value] <;> omega

/-- R225 to R232: fZ of the result. -/
theorem rotOut_beq_zero (o : Rot) (v : Byte) (cin : Bool) : ((rotOut o v cin).1 == 0) = decide ((o.value v.toNat cin).1 = 0) := by
  rw [rotOut_eq, ofNat_beq_zero, Nat.mod_eq_of_lt (Rot.value_lt o v.isLt cin)]

/-! ### The shared operations -/

theorem rotateA_eq {op : Byte} {n : Nat} (count : CYCLES op false true = n) (o : Rot) (s : State) :
    rotateA op o s = .next { s with
      a := BitVec.ofNat 8 (o.value s.a.toNat s.fC).1, fZ := false, fN := false, fH := false, fC := (o.value s.a.toNat s.fC).2,
      cycles := n } := by
  rw [rotateA, rotOut_eq, finish_eq count]
  rfl

theorem cycles_rot (o : Rot) (x : Operand8) : CYCLES (8 * o.field + x.field) true true = x.cost 8 16 := by
  rcases x with r | _
  · cases o <;> cases r <;> rfl
  · cases o <;> rfl

/-- R118: `BIT` only reads its operand, which for the byte at `HL` costs less than to write it back. -/
theorem cycles_bit (b : Fin 8) (x : Operand8) : CYCLES (0x40 + 8 * BitVec.ofNat 8 b.val + x.field) true true = x.cost 8 12 := by
  rcases x with r | _
  · fin_cases b <;> cases r <;> rfl
  · fin_cases b <;> rfl

theorem cycles_res (b : Fin 8) (x : Operand8) : CYCLES (0x80 + 8 * BitVec.ofNat 8 b.val + x.field) true true = x.cost 8 16 := by
  rcases x with r | _
  · fin_cases b <;> cases r <;> rfl
  · fin_cases b <;> rfl

theorem cycles_set (b : Fin 8) (x : Operand8) : CYCLES (0xC0 + 8 * BitVec.ofNat 8 b.val + x.field) true true = x.cost 8 16 := by
  rcases x with r | _
  · fin_cases b <;> cases r <;> rfl
  · fin_cases b <;> rfl

/-- The frame of a write to an operand says nothing of the registers, the flags and the counts. -/
theorem State.SameButOperand.congr {s t u : State} {x : Operand8} (h : s.SameButOperand t x) (reads : t.SameMemory u) :
    s.SameButOperand u x := by
  cases x with
  | reg r => exact fun a => (reads a).trans (h a)
  | memHL => exact fun a out => (reads a).trans (h a out)

theorem rotate_spec {op : Byte} {n : Nat} (count : CYCLES op true true = n) (o : Rot) (x : Operand8) (s : State) :
    ∃ t, rotate op o x s = .next t
      ∧ t = { s.setOperand x (BitVec.ofNat 8 (o.value (s.operand x).toNat s.fC).1) with
              fZ := decide ((o.value (s.operand x).toNat s.fC).1 = 0), fN := false, fH := false,
              fC := (o.value (s.operand x).toNat s.fC).2, cycles := n }
      ∧ s.SameButOperand t x := by
  refine ⟨_, finish_eq count _, ?_, (s.sameButOperand x _).congr fun _ => rfl⟩
  rw [rotOut_beq_zero, rotOut_eq, State.setFlags]

/-- R234, R235: the operand alone is written. -/
theorem finish_setOperand_prefixed_spec {op : Byte} {n : Nat} (count : CYCLES op true true = n) (x : Operand8) (r : Byte) (s : State) :
    ∃ t, finish op true true (s.setOperand x r) = .next t ∧ t = { s.setOperand x r with cycles := n } ∧ s.SameButOperand t x :=
  ⟨_, finish_eq count _, rfl, (s.sameButOperand x r).congr fun _ => rfl⟩

theorem testBit_eq {op : Byte} {n : Nat} (count : CYCLES op true true = n) (b : Fin 8) (x : Operand8) (s : State) :
    testBit op b x s = .next { s with
      fZ := decide ((s.operand x).toNat / 2 ^ b.val % 2 = 0), fN := false, fH := true, cycles := n } := by
  have clear : (!(s.operand x).getLsbD b) = decide ((s.operand x).toNat / 2 ^ b.val % 2 = 0) := by
    simp only [getLsbD_eq_decide, ← decide_not, Nat.mod_two_not_eq_one]
  rw [testBit, clear, finish_eq count, State.setFlags]

/-! ### The mask of a bit -/

theorem getLsbD_bitMask (b : Fin 8) (k : Nat) : (bitMask b).getLsbD k = decide (k = b.val) := by
  have power : bitMask b = BitVec.twoPow 8 b.val := rfl
  rw [power, BitVec.getLsbD_twoPow, decide_eq_true b.isLt, Bool.true_and, decide_eq_decide.2 eq_comm]

theorem getLsbD_and_not_bitMask (v : Byte) (b : Fin 8) {k : Nat} (byte : k < 8) :
    (v &&& ~~~bitMask b).getLsbD k = (decide (k ≠ b.val) && v.getLsbD k) := by
  rw [BitVec.getLsbD_and, BitVec.getLsbD_not, decide_eq_true byte, Bool.true_and, getLsbD_bitMask, decide_not, Bool.and_comm]

theorem getLsbD_or_bitMask (v : Byte) (b : Fin 8) (k : Nat) :
    (v ||| bitMask b).getLsbD k = (decide (k = b.val) || v.getLsbD k) := by
  rw [BitVec.getLsbD_or, getLsbD_bitMask, Bool.or_comm]

/-! ### The rows -/

/-- Settles O40: each row is the one rotate of `A`, over the integers. -/
theorem rotateAccumulator : Obligations.RotateAccumulator := by
  rintro o i op s (⟨rfl, rfl, rfl⟩ | ⟨rfl, rfl, rfl⟩ | ⟨rfl, rfl, rfl⟩ | ⟨rfl, rfl, rfl⟩)
  · exact ⟨rfl, rotateA_eq rfl .rlc s⟩
  · exact ⟨rfl, rotateA_eq rfl .rrc s⟩
  · exact ⟨rfl, rotateA_eq rfl .rl s⟩
  · exact ⟨rfl, rotateA_eq rfl .rr s⟩

/-- Settles O41: the form is the one prefixed rotate, and every opcode of it has the form's cycle count. -/
theorem rotateAndShift : Obligations.RotateAndShift := by
  intro o x s r
  refine ⟨encode_rot o x, ?_⟩
  rw [exec_rot]
  exact rotate_spec (cycles_rot o x) o x s

/-- Settles O42: `BIT` is one write of the flags, `RES` and `SET` are one write of the operand, joined with the mask bit by bit. -/
theorem bitInstructions : Obligations.BitInstructions := by
  intro b x s
  refine ⟨encode_bit b x, encode_res b x, encode_set b x, ?_, ?_, ?_⟩
  · rw [exec_bit]
    exact testBit_eq (cycles_bit b x) b x s
  · obtain ⟨t, run, written, frame⟩ :=
      finish_setOperand_prefixed_spec (cycles_res b x) x (s.operand x &&& ~~~bitMask b) s
    exact ⟨_, t, (exec_res b x s).trans run, written, frame, fun _ byte => getLsbD_and_not_bitMask _ b byte⟩
  · obtain ⟨t, run, written, frame⟩ := finish_setOperand_prefixed_spec (cycles_set b x) x (s.operand x ||| bitMask b) s
    exact ⟨_, t, (exec_set b x s).trans run, written, frame, fun k _ => getLsbD_or_bitMask _ b k⟩

/-! ### The prefix -/

theorem field_rotOf (y : Fin 8) : (rotOf y).field = BitVec.ofNat 8 y.val := by fin_cases y <;> rfl

theorem field_operandOf (z : Fin 8) : (operandOf z).field = BitVec.ofNat 8 z.val := by fin_cases z <;> rfl

/-- R104, R106: the opcode from its fields, the last of them as an operand. -/
theorem opcode_of_fields {op : Byte} {x : Nat} (quarter : fieldX op = x) :
    BitVec.ofNat 8 (64 * x) + 8 * BitVec.ofNat 8 (fieldY op).val + (operandOf (fieldZ op)).field = op := by
  conv_rhs => rw [← opcodeByte_fields op, quarter, opcodeByte]
  rw [field_operandOf]
  bv_omega

/-- R224: each quarter of the second table is one form, which `exec` runs as the prefix row does. -/
theorem exec_decodeCB (op2 : Byte) (s : State) : exec (decodeCB op2) s = prefixed op2 s := by
  have bound := fieldX_lt op2
  rw [decodeCB, prefixed]
  generalize quarter : fieldX op2 = x at bound
  have opcode := opcode_of_fields quarter
  match x, bound with
  | 0, _ =>
    rw [BitVec.zero_add, ← field_rotOf] at opcode
    exact (exec_rot _ _ s).trans (congrArg (rotate · _ _ s) opcode)
  | 1, _ => exact (exec_bit _ _ s).trans (congrArg (testBit · _ _ s) opcode)
  | 2, _ => exact (exec_res _ _ s).trans (congrArg (resetBit · _ _ s) opcode)
  | 3, _ => exact (exec_set _ _ s).trans (congrArg (setBit · _ _ s) opcode)

/-- Settles O43: the decoder's second table and the prefix row read the same fields, and the prefix row is legal. -/
theorem prefixRunsTheSecondTable : Obligations.PrefixRunsTheSecondTable := by
  intro op2 b2 s
  obtain ⟨t, next, _⟩ := exec_next_of_legal (i := .prefix_CB op2) rfl s
  exact ⟨decodeBytes_CB op2 b2, (exec_decodeCB op2 s).symm, t, next⟩

end Sys2Proof.Machine
end

section
/-!
SUPPORT. Control transfer (spec/45_control.md R250 to R261): the condition codes and the relative target, what each shared operation
gives with its cycle counts as numbers, and then the rows.
-/

namespace Sys2Proof.Machine

/-! ### Conditions and targets -/

/-- R250 (K7): the condition codes, as a table. -/
theorem State.cond_eq_iff {s : State} {cc : Cond} {holds : Bool} :
    s.cond cc = holds ↔
      (cc = .nz ∧ holds = !s.fZ) ∨ (cc = .z ∧ holds = s.fZ) ∨ (cc = .nc ∧ holds = !s.fC) ∨ (cc = .c ∧ holds = s.fC) := by
  cases cc <;> simp [State.cond, eq_comm]

theorem State.cond_eq_true_iff {s : State} {cc : Cond} :
    s.cond cc = true ↔
      (cc = .nz ∧ s.fZ = false) ∨ (cc = .z ∧ s.fZ = true) ∨ (cc = .nc ∧ s.fC = false) ∨ (cc = .c ∧ s.fC = true) := by
  simp [State.cond_eq_iff]

theorem State.cond_eq_false_iff {s : State} {cc : Cond} :
    s.cond cc = false ↔
      (cc = .nz ∧ s.fZ = true) ∨ (cc = .z ∧ s.fZ = false) ∨ (cc = .nc ∧ s.fC = true) ∨ (cc = .c ∧ s.fC = false) := by
  simp [State.cond_eq_iff]

/-- R254 (D6): the sum over the integers, modulo 2^16. -/
theorem State.relative_eq (s : State) (e : Byte) : s.relative e = BitVec.ofInt 16 (s.pc.toNat + e.toInt) := by
  rw [BitVec.ofInt_add, BitVec.ofInt_natCast, BitVec.ofNat_toNat, BitVec.setWidth_eq]
  rfl

theorem encode_jp_a16 (w : Word) : encode (.jp_a16 w) = [0xC3, BitVec.ofNat 8 w.toNat, BitVec.ofNat 8 (w.toNat / 256)] := by
  rw [← lo_eq, ← hi_eq]
  rfl

theorem encode_call_a16 (w : Word) : encode (.call_a16 w) = [0xCD, BitVec.ofNat 8 w.toNat, BitVec.ofNat 8 (w.toNat / 256)] := by
  rw [← lo_eq, ← hi_eq]
  rfl

/-! ### The shared operations -/

/-- R252, R255: a jump writes `PC` where its condition holds, and else only costs its cycles. -/
theorem jumpIf_eq {op : Byte} {n m : Nat} (taken : CYCLES op false true = n) (notTaken : CYCLES op false false = m) (cc : Cond)
    (target : Word) (s : State) :
    jumpIf op cc target s = .next (if s.cond cc then { s with pc := target, cycles := n } else { s with cycles := m }) := by
  rw [jumpIf, finish_eq taken, finish_eq notTaken, apply_ite Host.Outcome.next]
  rfl

theorem callIf_of_cond {op : Byte} {cc : Cond} {s : State} (holds : s.cond cc = true) (target : Word) :
    callIf op cc target s = finish op false true (s.call target) :=
  if_pos holds

theorem callIf_of_not_cond {op : Byte} {n : Nat} {cc : Cond} {s : State} (count : CYCLES op false false = n)
    (fails : s.cond cc = false) (target : Word) : callIf op cc target s = .next { s with cycles := n } := by
  rw [callIf, fails, if_neg Bool.false_ne_true, finish_eq count]

theorem returnIf_of_cond {op : Byte} {cc : Cond} {s : State} (holds : s.cond cc = true) :
    returnIf op cc s = finish op false true s.ret :=
  if_pos holds

theorem returnIf_of_not_cond {op : Byte} {n : Nat} {cc : Cond} {s : State} (count : CYCLES op false false = n)
    (fails : s.cond cc = false) : returnIf op cc s = .next { s with cycles := n } := by
  rw [returnIf, fails, if_neg Bool.false_ne_true, finish_eq count]

/-- R258, R77: `PC` is the word at the old `SP`, which then moves by two. -/
theorem State.ret_eq (s : State) : s.ret = { s with pc := s.read16 s.sp, sp := s.sp + 2 } := rfl

/-- R261, R312. -/
theorem State.returnFromInterrupt_eq (s : State) : s.returnFromInterrupt = { s.ret with ime := true } := rfl

theorem State.OnlyStack.setPc {s t : State} (h : s.OnlyStack t) (w : Word) : s.OnlyStack (t.setPc w) :=
  congrArg (fun u : State => u.setPc w) h

/-- R256: a call is a push of `PC`, after which `PC` is the target. -/
theorem finish_call_spec {op : Byte} {n : Nat} (count : CYCLES op false true = n) (target : Word) (s : State) :
    ∃ t, finish op false true (s.call target) = .next t
      ∧ t = { ({ s with sp := s.sp - 2 } : State).write16 (s.sp - 2) s.pc with pc := target, cycles := n }
      ∧ t.sp = s.sp - 2 ∧ s.OnlyStack t ∧ s.SameOutside16 t (s.sp - 2) :=
  ⟨_, finish_eq count _, by rw [State.call, State.push16_eq, State.setPc], s.push16_sp _, (s.onlyStack_push16 _ n).setPc target,
    s.sameOutside_push16 _⟩

/-! ### The rows -/

/-- Settles O44: every jump is one write of `PC`, conditional or not, and every opcode of a form has the form's cycle counts. -/
theorem jumps : Obligations.Jumps := by
  intro w e cc holds s table low high near
  have cond : s.cond cc = holds := State.cond_eq_iff.2 table
  have target : s.relative e = near := s.relative_eq e
  refine ⟨encode_jp_a16 w, rfl, rfl, by rw [encode_jpCond, lo_eq, hi_eq], encode_jrCond cc e, finish_eq rfl _,
    finish_eq rfl _, ?_, ?_, ?_⟩
  · rw [← target]
    exact finish_eq rfl _
  · rw [exec_jpCond, ← cond]
    exact jumpIf_eq (by cases cc <;> rfl) (by cases cc <;> rfl) cc w s
  · rw [exec_jrCond, target, ← cond]
    exact jumpIf_eq (by cases cc <;> rfl) (by cases cc <;> rfl) cc near s

/-- Settles O45: the three kinds of call are one push and one write of `PC`. -/
theorem calls : Obligations.Calls := by
  rintro i target bytes count s (⟨rfl, rfl, rfl⟩ | ⟨cc, rfl, taken, rfl, rfl⟩ | ⟨y, rfl, rfl, rfl, rfl⟩)
  · exact ⟨encode_call_a16 target, finish_call_spec rfl target s⟩
  · rw [← lo_eq, ← hi_eq]
    refine ⟨encode_callCond cc target, ?_⟩
    rw [exec_callCond, callIf_of_cond (State.cond_eq_true_iff.2 taken)]
    exact finish_call_spec (by cases cc <;> rfl) target s
  · refine ⟨encode_rst y, ?_⟩
    rw [exec_rst]
    exact finish_call_spec (by fin_cases y <;> rfl) _ s

/-- Settles O46: the three kinds of return are one pop of `PC`; a transfer whose condition fails writes the cycle count alone. -/
theorem returnsAndTransfersNotTaken : Obligations.ReturnsAndTransfersNotTaken := by
  intro cc w s back
  have popped : s.ret = back := s.ret_eq
  refine ⟨rfl, rfl, encode_retCond cc, ?_, ?_, fun taken => ?_, fun notTaken => ⟨?_, ?_⟩⟩
  · rw [← popped]
    exact finish_eq rfl s.ret
  · rw [← popped]
    exact finish_eq rfl s.returnFromInterrupt
  · rw [exec_retCond, returnIf_of_cond (State.cond_eq_true_iff.2 taken), ← popped]
    exact finish_eq (by cases cc <;> rfl) s.ret
  · rw [exec_retCond]
    exact returnIf_of_not_cond (by cases cc <;> rfl) (State.cond_eq_false_iff.2 notTaken)
  · rw [exec_callCond]
    exact callIf_of_not_cond (by cases cc <;> rfl) (State.cond_eq_false_iff.2 notTaken) w

end Sys2Proof.Machine
end

section
/-!
SUPPORT. The system instructions and the illegal opcodes (spec/46_system.md R270 to R275), the step of a suspended machine (R276),
and the faults that a step can raise (spec/60_exceptions.md R304, R309).
-/

namespace Sys2Proof.Machine

/-! ### The rows -/

theorem encode_stop (pad : Byte) : encode (.stop pad) = [0x10, pad] := rfl

/-- Settles O47: each row is one write of a mode flag, or of none, and the cycle count. -/
theorem systemInstructions : Obligations.SystemInstructions := fun pad _ =>
  ⟨rfl, rfl, encode_stop pad, rfl, rfl, finish_eq rfl _, finish_eq rfl _, finish_eq rfl _, finish_eq rfl _, finish_eq rfl _⟩

/-! ### The decode fault -/

/-- R22: the low byte of `AF` is the byte of the flags. -/
theorem State.ofNat_af (s : State) : BitVec.ofNat 8 s.af.toNat = s.flagByte := by
  rw [← lo_eq, State.af, lo_cat]

/-- Settles O48: the opcode is the whole encoding, and the payload's flags are the low byte of `AF`. -/
theorem illegalOpcodesFault : Obligations.IllegalOpcodesFault := by
  intro i op s illegal a
  refine ⟨encode_illegal illegal, ?_⟩
  rw [exec_illegal illegal, s.ofNat_af]
  rfl

/-- R275: an illegal opcode is one byte long, so the fault's address is where it was fetched. -/
theorem State.decodeFault_pastInstruction {s : State} {op : Byte} (illegal : s.fetched.1.illegalOpcode = some op) :
    s.pastInstruction.decodeFault op
      = .decodeFault (s.read8 s.pc) s.pc (s.read8 (s.pc - 2), s.read8 (s.pc - 1)) (s.read8 (s.pc + 1), s.read8 (s.pc + 2))
          { s.snapshot with pc := s.pc + 1 } := by
  obtain rfl : op = s.read8 s.pc := illegalOpcode_decodeBytes illegal
  have length : s.fetched.2 = 1 := congrArg Prod.snd (decodeBytes_illegal illegal _ _)
  have past : s.pastInstruction = s.setPc (s.pc + 1) := by
    rw [State.pastInstruction, length]
    rfl
  simp only [past, State.decodeFault, State.setPc_pc, State.read8_setPc, BitVec.add_sub_cancel]
  rfl

/-! ### The step of a suspended machine -/

theorem step_of_cpuStep_ok {s t : State} (h : s.cpuStep = .ok t) : step s = t.advanceDevices.deliverIfPending.outcome := by
  rw [step, State.systemStep, h]

theorem step_congr {s t : State} (h : s.cpuStep = t.cpuStep) : step s = step t := by
  rw [step, step, State.systemStep, State.systemStep, h]

/-- R276 (D18): a halted machine with an interrupt pending and enabled runs the instruction that it runs awake. -/
theorem State.cpuStep_halted_pending {s : State} (halted : s.runState = .halted) (pending : s.pendingEnabled ≠ 0x00) :
    s.cpuStep = State.cpuStep { s with halted := false } := by
  obtain ⟨unfaulted, unstopped, _⟩ := State.runState_halted.1 halted
  have awake : ({ s with halted := false } : State).runState = .running := State.runState_running.2 ⟨unfaulted, unstopped, rfl⟩
  rw [State.cpuStep_halted halted, if_neg pending, State.cpuStep_running awake]

/-- Settles O8: the CPU step of each suspended machine is the suspension, or the step of the machine awake. -/
theorem suspendedStep : Obligations.SuspendedStep := by
  intro s idle
  refine ⟨fun stopped => ?_, fun halted nothing => ?_, fun halted pending => ?_⟩
  · exact step_of_cpuStep_ok (State.cpuStep_stopped stopped)
  · have suspended : s.cpuStep = .ok s.suspend := (State.cpuStep_halted halted).trans (if_pos nothing)
    exact step_of_cpuStep_ok suspended
  · exact step_congr (State.cpuStep_halted_pending halted pending)

/-! ### The faults of a step -/

theorem systemStep_of_step_fault {s : State} {f : Fault} (h : step s = .fault f) : ∃ t, s.systemStep = .raised f t := by
  rw [step] at h
  generalize s.systemStep = o at h ⊢
  cases o with
  | ok t => cases h
  | raised g t =>
    cases h
    exact ⟨t, rfl⟩
  | declined r => cases h

/-- R304, R309: a machine that is not faulted faults in its instruction, which the woken machine fetches as the halted one would, or
in the delivery check. -/
theorem step_fault_cases {s : State} {f : Fault} (unfaulted : s.faulted = none) (h : step s = .fault f) :
    (∃ u op, (u = s ∨ u = { s with halted := false }) ∧ u.fetched.1.illegalOpcode = some op ∧ f = u.pastInstruction.decodeFault op)
    ∨ ∃ b regs, 4 ≤ b ∧ b < 8 ∧ f = .internalConsistencyFault b regs := by
  obtain ⟨left, raised⟩ := systemStep_of_step_fault h
  rcases s.systemStep_cases with
    ⟨g, latched, _⟩ | ⟨_, u, op, woken, illegal, e⟩ | ⟨_, t, _, _, _, _, _, e | ⟨b, _, e⟩ | ⟨b, above, below, e⟩⟩
  · cases unfaulted.symm.trans latched
  · exact .inl ⟨u, op, woken, illegal, (Stage.raised.inj (raised.symm.trans e)).1⟩
  · cases raised.symm.trans e
  · cases raised.symm.trans e
  · exact .inr ⟨b, _, above, below, (Stage.raised.inj (raised.symm.trans e)).1⟩

/-- Settles O11: the fault of the instruction is the decode fault of the opcode at `PC`, and no byte or register of its payload
changes when a halted machine wakes. -/
theorem faultsOfAStep : Obligations.FaultsOfAStep := by
  intro s f unfaulted fault
  refine (step_fault_cases unfaulted fault).imp_left ?_
  rintro ⟨u, op, woken, illegal, rfl⟩
  have listed : u.read8 u.pc ∈ illegalOpcodes := illegalOpcode_decodeBytes illegal ▸ mem_illegalOpcodes illegal
  rw [State.decodeFault_pastInstruction illegal]
  rcases woken with rfl | rfl <;> exact ⟨listed, rfl⟩

end Sys2Proof.Machine
end

section
/-!
SUPPORT. What a latched fault stops (spec/60_exceptions.md R303), the cycle count of a step (spec/70_reset_and_hazards.md R397),
and the two actions of the host (R396).
-/

namespace Sys2Proof.Machine

/-! ### The latched fault -/

theorem State.unlessFaulted_some {s : State} {f : Fault} (latched : s.faulted = some f) (k : State → Stage) :
    s.unlessFaulted k = .raised f s := by
  simp only [State.unlessFaulted, latched]

theorem State.systemStep_faulted {s : State} {f : Fault} (latched : s.faulted = some f) : s.systemStep = .raised f s := by
  rw [State.systemStep, State.cpuStep_faulted latched]

/-- Settles O10: the system step ends at its CPU step, and each of the other operations tests the latch first. -/
theorem faultIsFinal : Obligations.FaultIsFinal := by
  intro s f latched
  have stops : s.systemStep = .raised f s := State.systemStep_faulted latched
  exact ⟨step_of_systemStep_raised stops, State.afterStep_of_systemStep_raised stops, State.cpuStep_faulted latched,
    fun _ => State.unlessFaulted_some latched _, State.unlessFaulted_some latched _⟩

/-! ### The cycle count -/

theorem State.Advanced.cycles {s t : State} (h : s.Advanced t) : t.cycles = s.cycles := by rw [h.eq]

@[simp] theorem State.push16_cycles (s : State) (w : Word) : (s.push16 w).cycles = s.cycles := by
  rw [State.push16_eq, State.write16_cycles]

/-- R308, R311: a delivery is a push, and then writes of `PC`, `ime`, `halted` and the byte of `IF` that the push left. -/
theorem State.takeInterrupt_eq (s : State) (b : Nat) :
    s.takeInterrupt b = { s.push16 s.pc with
      mem := ((s.push16 s.pc).setDirect IF ((s.push16 s.pc).direct IF &&& ~~~(1#8 <<< b))).mem,
      pc := vector b, ime := false, halted := false } := rfl

theorem State.takeInterrupt_cycles (s : State) (b : Nat) : (s.takeInterrupt b).cycles = s.cycles := by
  rw [State.takeInterrupt_eq]
  exact s.push16_cycles s.pc

/-- Settles O13: the count is the CPU step's, which neither the advances nor a delivery changes. -/
theorem stepCountsAreMachineCycles : Obligations.StepCountsAreMachineCycles := by
  intro s u next
  obtain ⟨t, _, legal, advanced, rfl | ⟨b, _, rfl⟩⟩ := step_next_cases next
  · rw [advanced.cycles]
    exact legal
  · rw [State.takeInterrupt_cycles, advanced.cycles]
    exact legal

/-! ### The host -/

/-- Settles O60: the one action is a direct store, the other a write of `stopped`. -/
theorem hostActions : Obligations.HostActions := fun s v =>
  ⟨s.setDirect_spec JOYP v, rfl, fun unfaulted awake => State.runState_running.2 ⟨unfaulted, rfl, awake⟩⟩

end Sys2Proof.Machine
end

section
/-!
SUPPORT. The request and the delivery of an interrupt (spec/60_exceptions.md R305 to R311).
-/

namespace Sys2Proof.Machine

/-! ### The pending bits -/

/-- R305: a pending bit that is set changes that bit of `IF` and nothing else. -/
theorem State.setPending_spec (s : State) {b : Nat} (byte : b < 8) :
    ∃ m, s.setPending b = { s with mem := m }
      ∧ (∀ k, (m.read IF).getLsbD k = (decide (k = b) || (s.mem.read IF).getLsbD k))
      ∧ ∀ a, a ≠ IF → m.read a = s.mem.read a := by
  obtain ⟨m, stored, same, frame⟩ := s.setDirect_spec IF (s.direct IF ||| bitMask ⟨b, byte⟩)
  exact ⟨m, stored, fun k => by rw [same]; exact getLsbD_or_bitMask _ ⟨b, byte⟩ k, frame⟩

/-- R333, R334, R335: a request that is made on a condition. -/
theorem State.setPendingIf_spec (s : State) {b : Nat} (byte : b < 8) (c : Prop) [Decidable c] :
    ∃ m, (if c then s.setPending b else s) = { s with mem := m }
      ∧ (∀ k, (m.read IF).getLsbD k = ((s.mem.read IF).getLsbD k || (decide (k = b) && decide c)))
      ∧ ∀ a, a ≠ IF → m.read a = s.mem.read a := by
  by_cases hc : c
  · obtain ⟨m, set, bits, frame⟩ := s.setPending_spec byte
    exact ⟨m, by rw [if_pos hc, set], fun k => by rw [bits, decide_eq_true hc, Bool.and_true, Bool.or_comm], frame⟩
  · exact ⟨s.mem, if_neg hc, fun k => by rw [decide_eq_false hc, Bool.and_false, Bool.or_false], fun _ _ => rfl⟩

/-- Settles O50: bits 0 to 3 are set as pending; a higher bit is the consistency fault. -/
theorem requestInterrupt : Obligations.RequestInterrupt := by
  intro s b unfaulted
  refine ⟨fun low => ?_, fun high => ?_⟩
  · obtain ⟨m, set, bits, frame⟩ := s.setPending_spec (show b < 8 by omega)
    refine ⟨m, ?_, fun k _ => bits k, frame⟩
    rw [State.request, State.unlessFaulted_none unfaulted, if_neg (by omega), set]
  · rw [State.request, State.unlessFaulted_none unfaulted, if_pos high]
    rfl

/-! ### The delivery check -/

/-- R308: the lowest pending enabled bit, where `ime` is set, is delivered or raises the consistency fault. -/
theorem State.deliverIfPending_of_lowestBit {s : State} {b : Nat} (unfaulted : s.faulted = none) (enabled : s.ime = true)
    (lowest : lowestBit s.pendingEnabled = some b) :
    s.deliverIfPending = if b > 3 then raise s (.internalConsistencyFault b s.snapshot) else .ok (s.takeInterrupt b) := by
  rw [State.deliverIfPending, State.unlessFaulted_none unfaulted, if_pos enabled, lowest]

/-- R308: a bit that is set and has none set below it is the lowest. -/
theorem lowestBit_of_lowest {m : Byte} {b : Nat} (set : m.getLsbD b = true) (below : ∀ k, k < b → m.getLsbD k = false) :
    lowestBit m = some b :=
  lowestBit_some.2 ⟨BitVec.lt_of_getLsbD set, set, below⟩

/-- R306. -/
theorem vector_eq {b : Nat} (low : b ≤ 3) : vector b = [0x0040, 0x0048, 0x0050, 0x0060].getD b 0 := by
  interval_cases b <;> rfl

/-- R76: a push changes memory, `boot` and `SP` only. -/
theorem State.push16_frame (s : State) (w : Word) :
    s.push16 w = { s with mem := (s.push16 w).mem, boot := (s.push16 w).boot, sp := s.sp - 2 } :=
  State.write16_eq _ _ _

/-- R308, R311: a delivery clears one bit of `IF` as the push left it, and the rest of what it changes is the push's, `PC`, `ime` and
`halted`. -/
theorem State.takeInterrupt_spec (s : State) {b : Nat} (byte : b < 8) :
    ∃ m, s.takeInterrupt b = { s with
          mem := m, boot := (s.push16 s.pc).boot, sp := s.sp - 2, pc := vector b, ime := false, halted := false }
      ∧ (∀ k, k < 8 → (m.read IF).getLsbD k = (decide (k ≠ b) && ((s.push16 s.pc).mem.read IF).getLsbD k))
      ∧ ∀ a, a ≠ IF → m.read a = (s.push16 s.pc).mem.read a := by
  have frame := s.push16_frame s.pc
  rw [State.takeInterrupt_eq]
  generalize s.push16 s.pc = p at frame ⊢
  obtain ⟨m, cleared, same, others⟩ := p.setDirect_spec IF (p.direct IF &&& ~~~bitMask ⟨b, byte⟩)
  refine ⟨m, ?_, fun k bit => by rw [same]; exact getLsbD_and_not_bitMask _ ⟨b, byte⟩ bit, others⟩
  have stored : (p.setDirect IF (p.direct IF &&& ~~~(1#8 <<< b))).mem = m := congrArg State.mem cleared
  rw [stored, frame]

/-- Settles O51: the lowest bit is 0 to 3, so the check takes the interrupt, and its push is the word written at the new `SP`. -/
theorem deliverInterrupt : Obligations.DeliverInterrupt := by
  intro s b unfaulted enabled low set below p
  have pushed : s.push16 s.pc = p := s.push16_eq s.pc
  obtain ⟨m, taken, bits, others⟩ := s.takeInterrupt_spec (show b < 8 by omega)
  rw [pushed] at taken bits others
  refine ⟨m, ?_, bits, others, pushed ▸ s.sameOutside_push16 s.pc⟩
  rw [State.deliverIfPending_of_lowestBit unfaulted enabled (lowestBit_of_lowest set below), if_neg (by omega), taken, vector_eq low]

/-- Settles O52: with no lowest bit to serve the check ends where it began; a lowest bit above 3 is the consistency fault. -/
theorem deliverNothingOrFault : Obligations.DeliverNothingOrFault := by
  intro s unfaulted
  refine ⟨fun idle => ?_, fun b high enabled set below => ?_⟩
  · rcases State.deliverIfPending_cases unfaulted with ⟨_, nothing⟩ | ⟨enabled, b, lowest, _⟩
    · exact nothing
    · rcases idle with disabled | nonePending
      · cases enabled.symm.trans disabled
      · cases (lowestBit_none.2 nonePending).symm.trans lowest
  · rw [State.deliverIfPending_of_lowestBit unfaulted enabled (lowestBit_of_lowest set below), if_pos high]
    rfl

end Sys2Proof.Machine
end

section
/-!
SUPPORT. The divider and the steps of a PPU advance (spec/60_exceptions.md R320, R330 to R335).
-/

namespace Sys2Proof.Machine

/-! ### The divider -/

/-- Settles O53: the advance is one direct store, whose byte is narrowed from the sum over the integers. -/
theorem timerAdvance : Obligations.TimerAdvance := by
  intro s n
  obtain ⟨m, stored, same, frame⟩ := s.setDirect_spec DIV (BitVec.ofNat 8 ((s.direct DIV).toNat + n))
  exact ⟨m, stored, by rw [same]; exact BitVec.toNat_ofNat _ 8, frame⟩

/-! ### The mode bits of `STAT` -/

/-- R42: the other six bits of `STAT` above the mode. -/
theorem replaceMode_eq_append (v : Byte) (mode : BitVec 2) : (v &&& 0xFC#8) ||| mode.setWidth 8 = v.extractLsb' 2 6 ++ mode := by
  apply BitVec.eq_of_getLsbD_eq
  intro k byte
  rw [BitVec.getLsbD_append, BitVec.getLsbD_or, BitVec.getLsbD_and, BitVec.getLsbD_setWidth]
  interval_cases k <;> simp

theorem toNat_replaceMode (v : Byte) (mode : BitVec 2) :
    ((v &&& 0xFC#8) ||| mode.setWidth 8).toNat = 4 * (v.toNat / 4) + mode.toNat := by
  have other : (v.extractLsb' 2 6).toNat = v.toNat / 4 := by
    have := v.isLt
    rw [BitVec.extractLsb'_toNat, Nat.shiftRight_eq_div_pow]
    omega
  rw [replaceMode_eq_append, BitVec.toNat_append, Nat.shiftLeft_eq, Nat.mul_comm, ← Nat.two_pow_add_eq_or_of_lt mode.isLt, other]

theorem getLsbD_replaceMode (v : Byte) (mode : BitVec 2) {k : Nat} (byte : k < 8) :
    ((v &&& 0xFC#8) ||| mode.setWidth 8).getLsbD k = if k < 2 then mode.getLsbD k else v.getLsbD k := by
  rw [replaceMode_eq_append, BitVec.getLsbD_append]
  refine ite_congr rfl (fun _ => rfl) fun high => ?_
  rw [BitVec.getLsbD_extractLsb', decide_eq_true (by omega), Bool.true_and, Nat.add_sub_cancel' (by omega)]

/-- R42: the byte of `STAT` with the mode replaced, and nothing else. -/
theorem State.setMode_spec (s : State) (mode : BitVec 2) :
    ∃ m, s.setMode mode = { s with mem := m } ∧ m.read STAT = (s.mem.read STAT &&& 0xFC#8) ||| mode.setWidth 8
      ∧ ∀ a, a ≠ STAT → m.read a = s.mem.read a :=
  s.setDirect_spec STAT _

/-! ### The display off -/

/-- Settles O54: two direct stores, the second of which keeps the other bits of `STAT`. -/
theorem ppuDisabled : Obligations.PpuDisabled := by
  intro shades s n off
  have advance : s.ppuAdvance shades n = (s.setDirect LY 0x00).setMode PPU_OFF_MODE := if_neg (by rw [State.direct, off]; decide)
  obtain ⟨m, stored, line, others⟩ := s.setDirect_spec LY 0x00
  obtain ⟨m', replaced, stat, others'⟩ := State.setMode_spec { s with mem := m } PPU_OFF_MODE
  refine ⟨m', by rw [advance, stored, replaced], ?_, fun k byte => ?_, fun a notStat notLine => ?_⟩
  · rw [others' LY (by decide)]
    exact line
  · rw [stat, getLsbD_replaceMode _ _ byte, others STAT (by decide)]
    by_cases mode : k < 2
    · rw [if_pos mode, decide_eq_false (by omega), Bool.false_and]
      exact BitVec.getLsbD_zero
    · rw [if_neg mode, decide_eq_true (by omega), Bool.true_and]
  · rw [others' a notStat]
    exact others a notLine

/-! ### Step 2: the mode -/

/-- R332: the mode as a number. -/
theorem State.toNat_ppuMode (s : State) :
    s.ppuMode.toNat
      = if 144 ≤ (s.mem.read LY).toNat then 1 else if 377 ≤ s.budget then 2 else if 205 ≤ s.budget then 3 else 0 := by
  simp only [State.ppuMode, apply_ite BitVec.toNat]
  rfl

/-- R333: the enable bit of the entry interrupt, from the mode as a number. -/
theorem State.modeEnable_eq (s : State) (mode : BitVec 2) :
    s.modeEnable mode
      = if mode.toNat = 0 then (s.mem.read STAT).getLsbD 3
        else if mode.toNat = 1 then (s.mem.read STAT).getLsbD 4
        else decide (mode.toNat = 2) && (s.mem.read STAT).getLsbD 5 := by
  obtain ⟨mode⟩ := mode
  fin_cases mode <;> rfl

/-- D31: the edge, from the bytes as numbers. -/
theorem ne_extractLsb'_mode_iff (v : Byte) (mode : BitVec 2) : mode ≠ v.extractLsb' 0 2 ↔ v.toNat % 4 ≠ mode.toNat := by
  rw [BitVec.toNat_ne, BitVec.extractLsb'_toNat, Nat.shiftRight_zero]
  exact ne_comm

/-- Settles O55: the request is made in `IF`, so the mode replaces that of `STAT` as it was. -/
theorem ppuModeEntry : Obligations.PpuModeEntry := by
  intro s stat mode enabled
  have value : s.ppuMode.toNat = mode := s.toNat_ppuMode
  have enable : s.modeEnable s.ppuMode = enabled := by rw [s.modeEnable_eq, value]
  have edge : decide (s.ppuMode ≠ (s.direct STAT).extractLsb' 0 2) = decide (stat.toNat % 4 ≠ mode) := by
    rw [← value]
    exact decide_eq_decide.2 (ne_extractLsb'_mode_iff stat _)
  obtain ⟨m, requested, bits, others⟩ := s.setPendingIf_spec (b := 1) (by decide) ((decide (stat.toNat % 4 ≠ mode) && enabled) = true)
  obtain ⟨m', replaced, status, others'⟩ := State.setMode_spec { s with mem := m } s.ppuMode
  refine ⟨m', ?_, ?_, fun k _ => ?_, fun a notStat notIf => ?_⟩
  · rw [← edge, ← enable] at requested
    rw [State.ppuEnterMode, requested, replaced]
  · rw [status, toNat_replaceMode, others STAT (by decide), value]
  · rw [others' IF (by decide), bits, Bool.decide_eq_true, Bool.and_comm (decide _) enabled, Bool.and_assoc]
  · rw [others' a notStat]
    exact others a notIf

/-! ### Step 3: the line -/

/-- R90, R340 to R346: a row is rendered from tile memory and registers among which `LY` and `IF` are not. -/
theorem renderedRow_of_frame (shades : Shades) {s t : State} {y : Nat} (row : y < 144)
    (frame : ∀ a, a ≠ LY → a ≠ IF → t.direct a = s.direct a) : renderedRow shades t y = renderedRow shades s y := by
  refine renderedRow_congr shades (fun a reads => ?_) (frame BGP (by decide) (by decide)) row
  rcases reads with ⟨_, high⟩ | register
  · exact frame a (Nat.ne_of_lt (Nat.lt_trans high (by decide))) (Nat.ne_of_lt (Nat.lt_trans high (by decide)))
  · have apart : ∀ a ∈ [LCDC, WY, WX, SCX, SCY], a ≠ LY ∧ a ≠ IF := by decide
    obtain ⟨notLine, notIf⟩ := apart a register
    exact frame a notLine notIf

/-- R334: the next line is one request, one store at `LY` and the rendering of the row that ended. -/
theorem State.nextLine_spec (shades : Shades) (s : State) (ly : Nat) :
    ∃ m, State.nextLine shades s ly
        = { s with mem := m, fb := if ly < 144 then s.fb.set ly (renderedRow shades s ly) else s.fb }
      ∧ m.read LY = BitVec.ofNat 8 (if ly < 153 then ly + 1 else 0)
      ∧ (∀ k, (m.read IF).getLsbD k = ((s.mem.read IF).getLsbD k || (decide (k = 0) && decide (ly = 143))))
      ∧ ∀ a, a ≠ LY → a ≠ IF → m.read a = s.mem.read a := by
  obtain ⟨m, requested, bits, others⟩ := s.setPendingIf_spec (b := 0) (by decide) (ly + 1 = VBLANK_LINE)
  obtain ⟨m', stored, line, others'⟩ := State.setDirect_spec { s with mem := m } LY (BitVec.ofNat 8 (if ly < 153 then ly + 1 else 0))
  have frame : ∀ a, a ≠ LY → a ≠ IF → m'.read a = s.mem.read a := fun a notLine notIf =>
    (others' a notLine).trans (others a notIf)
  refine ⟨m', ?_, line, fun k => ?_, frame⟩
  · simp only [State.nextLine]
    rw [requested]
    by_cases wraps : ly + 1 > 153
    · rw [if_neg (by omega)] at stored
      rw [if_pos wraps, if_neg (show ¬ ly < 144 by omega)]
      exact stored
    · rw [if_pos (by omega)] at stored
      rw [if_neg wraps, stored]
      by_cases row : ly < 144
      · have rendered : renderedRow shades { s with mem := m' } ly = renderedRow shades s ly :=
          renderedRow_of_frame shades (s := s) (t := { s with mem := m' }) row frame
        rw [if_pos row, if_pos row, ← rendered]
        rfl
      · rw [if_neg row, if_neg row]
  · rw [others' IF (by decide)]
    exact (bits k).trans (by rw [decide_eq_decide.2 Nat.succ_inj])

/-- Settles O56: the budget falls, or it is 456 again and the next line begins. -/
theorem ppuLineAdvance : Obligations.PpuLineAdvance := by
  intro shades s n ly
  refine ⟨fun enough => if_neg (by omega), fun underflow => ?_⟩
  obtain ⟨m, next, line, bits, frame⟩ := State.nextLine_spec shades { s with budget := 456 } ly
  refine ⟨m, (if_pos underflow).trans next, ?_, fun k _ => bits k, frame⟩
  rw [line, BitVec.toNat_ofNat]
  split <;> omega

/-! ### Step 4: the coincidence -/

/-- R335: the coincidence bit of `STAT`. -/
def State.setCoincidence (s : State) (same : Bool) : State :=
  s.setDirect STAT (if same then s.direct STAT ||| bitMask 2 else s.direct STAT &&& ~~~bitMask 2)

theorem State.setCoincidence_spec (s : State) (same : Bool) :
    ∃ m, s.setCoincidence same = { s with mem := m }
      ∧ (∀ k, k < 8 → (m.read STAT).getLsbD k = if k = 2 then same else (s.mem.read STAT).getLsbD k)
      ∧ ∀ a, a ≠ STAT → m.read a = s.mem.read a := by
  obtain ⟨m, stored, status, others⟩ :=
    s.setDirect_spec STAT (if same then s.direct STAT ||| bitMask 2 else s.direct STAT &&& ~~~bitMask 2)
  refine ⟨m, stored, fun k byte => ?_, others⟩
  rw [status]
  cases same with
  | false => exact (getLsbD_and_not_bitMask _ 2 byte).trans (by by_cases h : k = 2 <;> simp [h, State.direct])
  | true => exact (getLsbD_or_bitMask _ 2 k).trans (by by_cases h : k = 2 <;> simp [h, State.direct])

/-- R335: step 4 is one store at `STAT`, which keeps bit 6, and one request. -/
theorem State.ppuCoincidence_eq (s : State) {same : Bool} (h : decide (s.direct LY = s.direct LYC) = same) :
    s.ppuCoincidence
      = if (same && (s.direct STAT).getLsbD 6) = true then (s.setCoincidence same).setPending 1 else s.setCoincidence same := by
  cases same with
  | false => exact if_neg (of_decide_eq_false h)
  | true =>
    have kept : ((s.setCoincidence true).direct STAT).getLsbD 6 = (s.direct STAT).getLsbD 6 := by
      obtain ⟨m, stored, status, _⟩ := s.setCoincidence_spec true
      rw [stored]
      exact status 6 (by decide)
    rw [Bool.true_and, ← kept]
    exact if_pos (of_decide_eq_true h)

/-- Settles O57: the store and the request of step 4; the order of the steps is the definition's. -/
theorem ppuCoincidence : Obligations.PpuCoincidence := by
  refine ⟨?_, fun shades s n on => if_pos on⟩
  intro s same stat
  obtain ⟨m, stored, status, others⟩ := s.setCoincidence_spec same
  obtain ⟨m', requested, bits, others'⟩ :=
    State.setPendingIf_spec { s with mem := m } (b := 1) (by decide) ((same && stat.getLsbD 6) = true)
  refine ⟨m', ?_, fun k byte => ?_, fun k _ => ?_, fun a notStat notIf => ?_⟩
  · rw [s.ppuCoincidence_eq (same := same) rfl, stored]
    exact requested
  · rw [others' STAT (by decide)]
    exact status k byte
  · rw [bits, Bool.decide_eq_true, others IF (by decide), Bool.and_assoc]
  · exact (others' a notIf).trans (others a notStat)

end Sys2Proof.Machine
end

section
/-!
SUPPORT. The renderer pixel by pixel (spec/60_exceptions.md R340 to R346): where a row stands in the frame buffer, and the layer, the
tile and the colour of one pixel as numbers.
-/

namespace Sys2Proof.Machine

/-! ### Rows of the frame buffer -/

theorem FrameBuffer.byte_putRow_same {fb : FrameBuffer} {y : Nat} (inside : y < fb.length) (row : List Byte) (col k : Nat) :
    (fb.putRow y row).byte y col k = row.getD (col * 4 + k) 0x00 := by
  rw [FrameBuffer.byte, FrameBuffer.putRow, List.getD_eq_getElem?_getD (l := fb.set y row), List.getElem?_set_self inside, Option.getD_some]

theorem FrameBuffer.byte_putRow_ne (fb : FrameBuffer) {y r : Nat} (other : r ≠ y) (row : List Byte) (col k : Nat) :
    (fb.putRow y row).byte r col k = fb.byte r col k := by
  rw [FrameBuffer.byte, FrameBuffer.putRow, List.getD_eq_getElem?_getD (l := fb.set y row), List.getElem?_set_ne other.symm,
    ← List.getD_eq_getElem?_getD, FrameBuffer.byte]

/-- R52: the rows that there are. -/
theorem FrameBuffer.length_of_wf {fb : FrameBuffer} (h : fb.wf = true) : fb.length = 144 := by
  simp only [FrameBuffer.wf, Bool.and_eq_true, beq_iff_eq] at h
  exact h.1

/-- R340, R346: byte `j` of pixel `x` of a row. -/
theorem renderedRow_byte (shades : Shades) (s : State) (y : Nat) {x : Nat} (column : x < 160) (j : Fin 4) :
    (renderedRow shades s y).getD (x * 4 + j.val) 0x00 = shades (paletteShade (s.direct BGP) (colourIndex s y x)) j := by
  have inside : x * 4 + j.val < 640 := by omega
  have pixel : (x * 4 + j.val) / 4 = x := by omega
  have byte : Fin.ofNat 4 (x * 4 + j.val) = j := Fin.ext (show (x * 4 + j.val) % 4 = j.val by omega)
  rw [List.getD_eq_getElem _ _ (by rw [length_renderedRow]; exact inside)]
  simp only [renderedRow, List.getElem_map, List.getElem_range, pixel, byte]

/-! ### The layer -/

theorem layerPosition_fst (s : State) (y x : Nat) :
    (layerPosition s y x).1
      = if windowVisible s y x then x + 7 - (s.direct WX).toNat else (x + (s.direct SCX).toNat) % 256 := by
  rw [layerPosition, apply_ite Prod.fst]

theorem layerPosition_snd (s : State) (y x : Nat) :
    (layerPosition s y x).2 = if windowVisible s y x then y - (s.direct WY).toNat else (y + (s.direct SCY).toNat) % 256 := by
  rw [layerPosition, apply_ite Prod.snd]

theorem mapBase_eq (s : State) (y x : Nat) :
    mapBase s y x
      = if (if windowVisible s y x then (s.direct LCDC).getLsbD 6 else (s.direct LCDC).getLsbD 3) then 0x9C00 else 0x9800 := by
  rw [mapBase, ← apply_ite (s.direct LCDC).getLsbD]

/-! ### The tile and the colour -/

/-- R343: the tile number is signed where `LCDC[4]` is clear. -/
theorem tileAddress_eq (s : State) (t : Byte) :
    tileAddress s t
      = (if (s.direct LCDC).getLsbD 4 then (0x8000 : Int) + 16 * t.toNat else 0x9000 + 16 * t.toInt).toNat := by
  have := t.isLt
  rw [tileAddress, BitVec.toInt_eq_toNat_cond]
  split
  · omega
  · split <;> split <;> omega

/-- R345: two bits of the palette as a number. -/
theorem paletteShade_eq (bgp : Byte) (ci : Nat) : paletteShade bgp ci = BitVec.ofNat 2 (bgp.toNat / 4 ^ ci % 4) := by
  apply BitVec.eq_of_toNat_eq
  rw [paletteShade, BitVec.extractLsb'_toNat, BitVec.toNat_ofNat, Nat.shiftRight_eq_div_pow, Nat.pow_mul, Nat.mod_mod]

theorem toNat_getLsbD (v : Byte) (k : Nat) : (v.getLsbD k).toNat = v.toNat / 2 ^ k % 2 := Nat.toNat_testBit _ _

/-- Settles O58: the row that is put is the rendered row, and a pixel's colour is its layer, its tile and two bits of that tile. -/
theorem renderedPixel : Obligations.RenderedPixel := by
  intro shades s y x j shape row column lcdc wy wx window xp yp base t tile low high ci t'
  have left : (layerPosition s y x).1 = xp := layerPosition_fst s y x
  have top : (layerPosition s y x).2 = yp := layerPosition_snd s y x
  have map : mapBase s y x = base := mapBase_eq s y x
  have address : tileAddress s t = tile.toNat := tileAddress_eq s t
  have number : s.direct (base + yp / 8 * 32 + xp / 8) = t := rfl
  have colour : colourIndex s y x = ci := by
    simp only [colourIndex, left, top, map, number, address, toNat_getLsbD]
    rfl
  refine ⟨?_, fun r col k other => s.fb.byte_putRow_ne other _ col k, rfl⟩
  calc t'.fb.byte y x j.val
      = (renderedRow shades s y).getD (x * 4 + j.val) 0x00 :=
      FrameBuffer.byte_putRow_same (by rw [FrameBuffer.length_of_wf shape]; exact row) _ x j
    _ = shades (paletteShade (s.direct BGP) ci) j := by rw [renderedRow_byte shades s y column j, colour]
    _ = shades (BitVec.ofNat 2 ((s.mem.read 0xFF47).toNat / 4 ^ ci % 4)) j := by
      rw [paletteShade_eq]
      rfl

end Sys2Proof.Machine
end
